-- ==== Sys2Proof/Word.lean ====
section
/-! DEFINITION. The plain words of the part: bytes on the wire, 16-bit terms, counts and epochs, the 32-bit lease clock. -/

namespace Sys2Proof

/-- One byte of a frame (R158). -/
abbrev Byte := BitVec 8

/-- A two-byte field: ticks, counts or an epoch (R14, R71, R161). -/
abbrev Word16 := BitVec 16

/-- The lease clock and the absolute ticks of deadlines: all arithmetic on them is modulo 2^32 (R44). -/
abbrev Tick := BitVec 32

end Sys2Proof
end

