-- ==== Sys2Proof/Syntax.lean ====
section
/-! DEFINITION. What reaches the part: the commands (one constructor of `Instr` per row of spec/opcode_table.json), and the
nineteen requests as decoded records (R160 to R162). -/

namespace Sys2Proof

/-- A host port, P0 to P3 (R122). P0 is the supervisor port (R140). -/
abbrev Port := Fin 4

/-- A lease number, L0 to L15 (R1). -/
abbrev LeaseId := Fin 16

/-- A channel number, CH0 to CH15 (R68). -/
abbrev ChannelId := Fin 16

/-- A set of channels, laid out as R161 lays it out: bit n is set for each member CHn. -/
abbrev ChannelSet := BitVec 16

/-- The two halt inputs, HALT0_N and HALT1_N (R112). -/
inductive HaltLine where
  | h0
  | h1
deriving DecidableEq, Repr

/-- Counting modes (R71). -/
inductive Mode where
  | edge
  | centre
  | single
deriving DecidableEq, Repr

/-- Output polarity (R70). -/
inductive Polarity where
  | activeHigh
  | activeLow
deriving DecidableEq, Repr

/-- The nine dividers of REFCLK (R71). -/
inductive Divider where
  | d1
  | d2
  | d4
  | d8
  | d16
  | d32
  | d64
  | d128
  | d256
deriving DecidableEq, Repr

/-- A parameter set: the six fields of R71. -/
structure ParamSet where
  mode     : Mode
  divider  : Divider
  period   : Word16
  width    : Word16
  phase    : Word16
  polarity : Polarity
deriving DecidableEq, Repr

/-- What a parked channel drives (R83). -/
inductive ParkAction where
  | parkLow
  | parkHigh
  | parkFloat
  | parkHold
deriving DecidableEq, Repr

/-- When a lapse start parks a RUNNING channel (R56, R85). -/
inductive ParkTiming where
  | atOnce
  | atPeriodEnd
deriving DecidableEq, Repr

/-- The halt inputs a channel obeys (R112). -/
inductive HaltGroup where
  | none
  | h0
  | h1
  | both
deriving DecidableEq, Repr

/-- The target of a TRANSFER: a named port, or the queue head (R38). -/
inductive Target where
  | port (p : Port)
  | next
deriving DecidableEq, Repr

/-- A lease definition: the five fields that DEFINE writes and UNDEFINE makes absent, present together (R3, R5). -/
structure LeaseDef where
  channels : ChannelSet
  lead     : ChannelId
  termMin  : Word16
  termMax  : Word16
  grace    : Word16
deriving DecidableEq, Repr

/-- The nineteen request codes (R160). -/
inductive ReqCode where
  | define
  | undefine
  | configureChannel
  | revoke
  | resetLeases
  | acquire
  | withdraw
  | renew
  | transfer
  | release
  | stage
  | discard
  | commit
  | resume
  | park
  | readNotices
  | queryLease
  | queryChannel
  | queryDevice
deriving DecidableEq, Repr

/-- A request with its body fields decoded (R160 to R162). -/
inductive HostRequest where
  | define (lease : LeaseId) (defn : LeaseDef)
  | undefine (lease : LeaseId)
  | configureChannel (channel : ChannelId) (action : ParkAction) (timing : ParkTiming) (group : HaltGroup)
  | revoke (lease : LeaseId)
  | resetLeases
  | acquire (lease : LeaseId) (term : Word16) (wait : Bool)
  | withdraw (lease : LeaseId)
  | renew (lease : LeaseId) (epoch : Word16) (newTerm : Word16)
  | transfer (lease : LeaseId) (epoch : Word16) (target : Target)
  | release (lease : LeaseId) (epoch : Word16)
  | stage (lease : LeaseId) (epoch : Word16) (channel : ChannelId) (params : ParamSet)
  | discard (lease : LeaseId) (epoch : Word16) (channel : ChannelId)
  | commit (lease : LeaseId) (epoch : Word16)
  | resume (lease : LeaseId) (epoch : Word16)
  | park (lease : LeaseId) (epoch : Word16) (channels : ChannelSet)
  | readNotices
  | queryLease (lease : LeaseId)
  | queryChannel (channel : ChannelId)
  | queryDevice
deriving DecidableEq, Repr

/-- The code a request travels under. -/
def HostRequest.code : HostRequest → ReqCode
  | .define .. => .define
  | .undefine .. => .undefine
  | .configureChannel .. => .configureChannel
  | .revoke .. => .revoke
  | .resetLeases => .resetLeases
  | .acquire .. => .acquire
  | .withdraw .. => .withdraw
  | .renew .. => .renew
  | .transfer .. => .transfer
  | .release .. => .release
  | .stage .. => .stage
  | .discard .. => .discard
  | .commit .. => .commit
  | .resume .. => .resume
  | .park .. => .park
  | .readNotices => .readNotices
  | .queryLease .. => .queryLease
  | .queryChannel .. => .queryChannel
  | .queryDevice => .queryDevice

/-- The levels the input pins show as a device reset ends: PRESENTn high, HALTn_N asserted (low), CSn_N low
(R112, R122, R138). -/
structure Pins where
  present      : Vector Bool 4
  halt0        : Bool
  halt1        : Bool
  chipSelected : Vector Bool 4
deriving DecidableEq, Repr

/-- The commands, one constructor per row of the opcode table.

A unit an event concerns is named by its number as the spec writes it (lease 0 to 15, channel 0 to 15, port 0 to 3). A
take of a request names nothing: which port is served is the arbiter's choice (R132), and the request's fields are the
bytes of the frame standing in that port's request slot (R123, R131). `mosi` is the run of bits sampled on MOSIn from the
fall of chip select to its rise, in the order sampled (R124). -/
inductive Instr where
  | deviceReset (pins : Pins)
  | tick
  | termExpiry (lease : Nat)
  | graceExpiry (lease : Nat)
  | periodEnd (channel : Nat)
  | periodEndTake (channel : Nat)
  | haltChange (line : HaltLine) (asserted : Bool)
  | haltAssertion (line : HaltLine)
  | haltRelease (line : HaltLine)
  | presentFall (port : Nat)
  | departure (port : Nat)
  | portReturn (port : Nat)
  | csFall (port : Nat)
  | csRise (port : Nat) (mosi : List Bool)
  | define
  | undefine
  | configureChannel
  | revoke
  | resetLeases
  | acquire
  | withdraw
  | renew
  | transfer
  | release
  | stage
  | discard
  | commit
  | resume
  | park
  | readNotices
  | queryLease
  | queryChannel
  | queryDevice
  | unknownRequest
  | count (channel : Nat)
deriving DecidableEq, Repr

/-- The command that is the take of a request of this code. -/
def ReqCode.command : ReqCode → Instr
  | .define => .define
  | .undefine => .undefine
  | .configureChannel => .configureChannel
  | .revoke => .revoke
  | .resetLeases => .resetLeases
  | .acquire => .acquire
  | .withdraw => .withdraw
  | .renew => .renew
  | .transfer => .transfer
  | .release => .release
  | .stage => .stage
  | .discard => .discard
  | .commit => .commit
  | .resume => .resume
  | .park => .park
  | .readNotices => .readNotices
  | .queryLease => .queryLease
  | .queryChannel => .queryChannel
  | .queryDevice => .queryDevice

end Sys2Proof
end

