-- ==== Sys2Proof/Config.lean ====
section
/-! DEFINITION. What the part fixes once for all: codes and limits the spec states, and the pin levels the model's own
reset state stands on. The spec leaves no value free, so there is no free value here. -/

namespace Sys2Proof.Config

/-- The part code of the KA1604 (R167). -/
def partCode : Word16 := 0x1604

/-- The revision this document describes (R167). -/
def revision : Byte := 0x01

/-- The longest frame body (R128, R158). -/
def maxBody : Nat := 60

/-- The most records one READ_NOTICES returns (R146). -/
def noticesPerRead : Nat := 8

/-- The generator polynomial of the frame check, its x^8 term left out (R159). -/
def crcPoly : Byte := 0x07

/-- The start value of the frame check (R159). -/
def crcInit : Byte := 0xFF

/-- The ticks any term, term min or term max lies between (R161). -/
def shortestTerm : Word16 := 10

/-- The longest term (R161). -/
def longestTerm : Word16 := 30000

/-- The longest grace (R161). -/
def longestGrace : Word16 := 1000

/-- DESIGN CHOICE (unsafe, log entry 1): the pins the reset state is taken with: every host present, both halt lines
released, every chip select high. The spec makes presence and taken levels what the pins show as reset ends (R112, R122);
`Instr.deviceReset` takes any levels. -/
def idlePins : Pins :=
  { present := Vector.replicate 4 true, halt0 := false, halt1 := false, chipSelected := Vector.replicate 4 false }

end Sys2Proof.Config
end

