-- ==== Sys2Proof/WellFormed.lean ====
section
/-! DEFINITION. Which commands name units the part has, and which decoded requests lie in the ranges their layout gives. -/

namespace Sys2Proof

/-- A parameter set is valid when its period is at least 2 and its phase is below its period; every width is (R72). -/
def ParamSet.valid (ps : ParamSet) : Bool := 2#16 ≤ ps.period && ps.phase < ps.period

/-- Ticks a term field may carry: 10 to 30,000 (R161). -/
def termInRange (t : Word16) : Bool := Config.shortestTerm ≤ t && t ≤ Config.longestTerm

/-- The field ranges of DEFINE that are independent of lease state (R17, step 2). -/
def LeaseDef.inRange (d : LeaseDef) : Bool :=
  d.channels.getLsbD d.lead && termInRange d.termMin && termInRange d.termMax && d.termMin ≤ d.termMax &&
    d.grace ≤ Config.longestGrace

/-- A decoded request whose fields lie in the ranges of their layout (R161, R162). -/
def HostRequest.inRange : HostRequest → Bool
  | .define _ d => d.inRange
  | .undefine _ => true
  | .configureChannel .. => true
  | .revoke _ => true
  | .resetLeases => true
  | .acquire _ t _ => termInRange t
  | .withdraw _ => true
  | .renew _ _ t => t = 0 || termInRange t
  | .transfer .. => true
  | .release .. => true
  | .stage _ _ _ ps => ps.valid
  | .discard .. => true
  | .commit .. => true
  | .resume .. => true
  | .park _ _ set => set ≠ 0
  | .readNotices => true
  | .queryLease _ => true
  | .queryChannel _ => true
  | .queryDevice => true

/-- A command is well-formed when every port, lease and channel it names exists (R1, R68, R122). -/
def Instr.wellFormed : Instr → Bool
  | .deviceReset _ => true
  | .tick => true
  | .termExpiry l => l < 16
  | .graceExpiry l => l < 16
  | .periodEnd c => c < 16
  | .periodEndTake c => c < 16
  | .haltChange _ _ => true
  | .haltAssertion _ => true
  | .haltRelease _ => true
  | .presentFall p => p < 4
  | .departure p => p < 4
  | .portReturn p => p < 4
  | .csFall p => p < 4
  | .csRise p _ => p < 4
  | .define => true
  | .undefine => true
  | .configureChannel => true
  | .revoke => true
  | .resetLeases => true
  | .acquire => true
  | .withdraw => true
  | .renew => true
  | .transfer => true
  | .release => true
  | .stage => true
  | .discard => true
  | .commit => true
  | .resume => true
  | .park => true
  | .readNotices => true
  | .queryLease => true
  | .queryChannel => true
  | .queryDevice => true
  | .unknownRequest => true
  | .count c => c < 16

end Sys2Proof
end

