-- ==== Sys2Proof/Decode.lean ====
section
/-! DEFINITION. Bytes to decoded requests and back (R160 to R162), and the host's `decodeTableWord`: no row of the opcode
table has bits, so no word spells a command. -/

namespace Sys2Proof

/-! ### Fields -/

/-- A two-byte field, most significant byte first (R158). -/
def wordOf (hi lo : Byte) : Word16 := hi ++ lo

/-- The two bytes of a field, most significant first (R158). -/
def wordBytes (w : Word16) : List Byte := [w.extractLsb' 8 8, w.extractLsb' 0 8]

/-- The four bytes of the lease clock, most significant first (R158, R167). -/
def tickBytes (t : Tick) : List Byte := [t.extractLsb' 24 8, t.extractLsb' 16 8, t.extractLsb' 8 8, t.extractLsb' 0 8]

/-- A lease or channel byte: 0 to 15 (R161). -/
def nibbleOf (b : Byte) : Option (Fin 16) := if h : b.toNat < 16 then some ⟨b.toNat, h⟩ else none

/-- The byte that carries a lease or channel number. -/
def nibbleByte (n : Fin 16) : Byte := BitVec.ofNat 8 n.val

/-- The byte that carries a port number. -/
def portByte (p : Port) : Byte := BitVec.ofNat 8 p.val

/-- The byte that carries yes or no. -/
def flagByte (b : Bool) : Byte := if b then 1 else 0

/-- A wait byte: 0 or 1 (R161). -/
def waitOf (b : Byte) : Option Bool := if b = 0 then some false else if b = 1 then some true else none

/-- The mode byte (R162). -/
def Mode.byte : Mode → Byte
  | .edge => 0
  | .centre => 1
  | .single => 2

/-- Reading a mode byte: 3 and above are refused (R162). -/
def Mode.ofByte (b : Byte) : Option Mode :=
  if b = 0 then some .edge else if b = 1 then some .centre else if b = 2 then some .single else none

/-- The REFCLK periods of one count (R71). -/
def Divider.periods : Divider → Nat
  | .d1 => 1
  | .d2 => 2
  | .d4 => 4
  | .d8 => 8
  | .d16 => 16
  | .d32 => 32
  | .d64 => 64
  | .d128 => 128
  | .d256 => 256

/-- The divider byte is k for divider 2^k (R162). -/
def Divider.byte : Divider → Byte
  | .d1 => 0
  | .d2 => 1
  | .d4 => 2
  | .d8 => 3
  | .d16 => 4
  | .d32 => 5
  | .d64 => 6
  | .d128 => 7
  | .d256 => 8

/-- The nine dividers. -/
def Divider.all : List Divider := [.d1, .d2, .d4, .d8, .d16, .d32, .d64, .d128, .d256]

/-- Reading a divider byte: 9 and above are refused (R162). -/
def Divider.ofByte (b : Byte) : Option Divider := Divider.all.find? fun d => d.byte == b

/-- The polarity byte (R162). -/
def Polarity.byte : Polarity → Byte
  | .activeHigh => 0
  | .activeLow => 1

/-- Reading a polarity byte: 2 and above are refused (R162). -/
def Polarity.ofByte (b : Byte) : Option Polarity :=
  if b = 0 then some .activeHigh else if b = 1 then some .activeLow else none

/-- The park action byte (R161). -/
def ParkAction.byte : ParkAction → Byte
  | .parkLow => 0
  | .parkHigh => 1
  | .parkFloat => 2
  | .parkHold => 3

/-- Reading a park action byte: 4 and above are refused (R161). -/
def ParkAction.ofByte (b : Byte) : Option ParkAction :=
  if b = 0 then some .parkLow else if b = 1 then some .parkHigh else if b = 2 then some .parkFloat
  else if b = 3 then some .parkHold else none

/-- The park timing byte (R161). -/
def ParkTiming.byte : ParkTiming → Byte
  | .atOnce => 0
  | .atPeriodEnd => 1

/-- Reading a park timing byte: 2 and above are refused (R161). -/
def ParkTiming.ofByte (b : Byte) : Option ParkTiming :=
  if b = 0 then some .atOnce else if b = 1 then some .atPeriodEnd else none

/-- The halt group byte (R161). -/
def HaltGroup.byte : HaltGroup → Byte
  | .none => 0
  | .h0 => 1
  | .h1 => 2
  | .both => 3

/-- Reading a halt group byte: 4 and above are refused (R161). -/
def HaltGroup.ofByte (b : Byte) : Option HaltGroup :=
  if b = 0 then some .none else if b = 1 then some .h0 else if b = 2 then some .h1
  else if b = 3 then some .both else Option.none

/-- The target byte: the port, or 0x80 for NEXT (R161). -/
def Target.byte : Target → Byte
  | .port p => portByte p
  | .next => 0x80

/-- Reading a target byte: neither a port nor 0x80 is refused (R161). -/
def Target.ofByte (b : Byte) : Option Target :=
  if h : b.toNat < 4 then some (.port ⟨b.toNat, h⟩) else if b = 0x80 then some .next else none

/-- The nine bytes of a parameter set (R162). -/
def ParamSet.bytes (ps : ParamSet) : List Byte :=
  [ps.mode.byte, ps.divider.byte] ++ wordBytes ps.period ++ wordBytes ps.width ++ wordBytes ps.phase ++ [ps.polarity.byte]

/-! ### Codes -/

/-- The request code byte (R160). -/
def ReqCode.byte : ReqCode → Byte
  | .define => 0x01
  | .undefine => 0x02
  | .configureChannel => 0x03
  | .revoke => 0x04
  | .resetLeases => 0x05
  | .acquire => 0x10
  | .withdraw => 0x11
  | .renew => 0x12
  | .transfer => 0x13
  | .release => 0x14
  | .stage => 0x20
  | .discard => 0x21
  | .commit => 0x22
  | .resume => 0x23
  | .park => 0x24
  | .readNotices => 0x30
  | .queryLease => 0x31
  | .queryChannel => 0x32
  | .queryDevice => 0x33

/-- The nineteen codes, in the table's order (R160). -/
def ReqCode.all : List ReqCode :=
  [.define, .undefine, .configureChannel, .revoke, .resetLeases, .acquire, .withdraw, .renew, .transfer, .release,
   .stage, .discard, .commit, .resume, .park, .readNotices, .queryLease, .queryChannel, .queryDevice]

/-- The request a code byte names, if it names one of the nineteen (R21, R160). -/
def ReqCode.ofByte (b : Byte) : Option ReqCode := ReqCode.all.find? fun k => k.byte == b

/-! ### Bodies

Each decoder answers `none` exactly where the common checks answer BAD_FIELD: at the body length (R21, step 1) or at a
field out of its range (R21, step 2; R161, R162). -/

/-- The parameter set of a STAGE body; an invalid set is refused (R72, R162). -/
def ParamSet.ofBytes (m d p1 p0 w1 w0 f1 f0 pol : Byte) : Option ParamSet :=
  match Mode.ofByte m, Divider.ofByte d, Polarity.ofByte pol with
  | some mode, some divider, some polarity =>
    let ps : ParamSet :=
      { mode := mode, divider := divider, period := wordOf p1 p0, width := wordOf w1 w0, phase := wordOf f1 f0,
        polarity := polarity }
    if ps.valid then some ps else none
  | _, _, _ => none

/-- DEFINE: ten bytes (R17, R160). -/
def decodeDefine : List Byte → Option HostRequest
  | [l, c1, c0, ld, a1, a0, b1, b0, g1, g0] =>
    match nibbleOf l, nibbleOf ld with
    | some lease, some lead =>
      let d : LeaseDef :=
        { channels := wordOf c1 c0, lead := lead, termMin := wordOf a1 a0, termMax := wordOf b1 b0, grace := wordOf g1 g0 }
      if d.inRange then some (.define lease d) else none
    | _, _ => none
  | _ => none

/-- CONFIGURE_CHANNEL: four bytes (R88, R160). -/
def decodeConfigureChannel : List Byte → Option HostRequest
  | [c, a, t, g] =>
    match nibbleOf c, ParkAction.ofByte a, ParkTiming.ofByte t, HaltGroup.ofByte g with
    | some ch, some act, some tim, some grp => some (.configureChannel ch act tim grp)
    | _, _, _, _ => none
  | _ => none

/-- ACQUIRE: four bytes (R27, R160). -/
def decodeAcquire : List Byte → Option HostRequest
  | [l, t1, t0, w] =>
    match nibbleOf l, waitOf w with
    | some lease, some wait => if termInRange (wordOf t1 t0) then some (.acquire lease (wordOf t1 t0) wait) else none
    | _, _ => none
  | _ => none

/-- RENEW: five bytes; the new term is 0 or in range (R49, R160). -/
def decodeRenew : List Byte → Option HostRequest
  | [l, e1, e0, t1, t0] =>
    match nibbleOf l with
    | some lease =>
      if wordOf t1 t0 = 0 || termInRange (wordOf t1 t0) then some (.renew lease (wordOf e1 e0) (wordOf t1 t0)) else none
    | none => none
  | _ => none

/-- TRANSFER: four bytes (R38, R160). -/
def decodeTransfer : List Byte → Option HostRequest
  | [l, e1, e0, t] =>
    match nibbleOf l, Target.ofByte t with
    | some lease, some target => some (.transfer lease (wordOf e1 e0) target)
    | _, _ => none
  | _ => none

/-- STAGE: thirteen bytes (R93, R160, R162). -/
def decodeStage : List Byte → Option HostRequest
  | [l, e1, e0, c, m, d, p1, p0, w1, w0, f1, f0, pol] =>
    match nibbleOf l, nibbleOf c, ParamSet.ofBytes m d p1 p0 w1 w0 f1 f0 pol with
    | some lease, some ch, some ps => some (.stage lease (wordOf e1 e0) ch ps)
    | _, _, _ => none
  | _ => none

/-- DISCARD: four bytes (R95, R160). -/
def decodeDiscard : List Byte → Option HostRequest
  | [l, e1, e0, c] =>
    match nibbleOf l, nibbleOf c with
    | some lease, some ch => some (.discard lease (wordOf e1 e0) ch)
    | _, _ => none
  | _ => none

/-- PARK: five bytes; an empty set is refused (R110, R160). -/
def decodePark : List Byte → Option HostRequest
  | [l, e1, e0, c1, c0] =>
    match nibbleOf l with
    | some lease => if wordOf c1 c0 = 0 then none else some (.park lease (wordOf e1 e0) (wordOf c1 c0))
    | none => none
  | _ => none

/-- A body of one lease byte (R160). -/
def decodeLeaseOnly (mk : LeaseId → HostRequest) : List Byte → Option HostRequest
  | [l] => (nibbleOf l).map mk
  | _ => none

/-- A body of a lease and an epoch (R160). -/
def decodeLeaseEpoch (mk : LeaseId → Word16 → HostRequest) : List Byte → Option HostRequest
  | [l, e1, e0] => (nibbleOf l).map fun lease => mk lease (wordOf e1 e0)
  | _ => none

/-- An empty body (R160). -/
def decodeEmpty (r : HostRequest) : List Byte → Option HostRequest
  | [] => some r
  | _ => none

/-- The body of a request of code `k`, or `none` where the answer is BAD_FIELD (R21, steps 1 and 2). -/
def decodeBody (k : ReqCode) (body : List Byte) : Option HostRequest :=
  match k with
  | .define => decodeDefine body
  | .undefine => decodeLeaseOnly .undefine body
  | .configureChannel => decodeConfigureChannel body
  | .revoke => decodeLeaseOnly .revoke body
  | .resetLeases => decodeEmpty .resetLeases body
  | .acquire => decodeAcquire body
  | .withdraw => decodeLeaseOnly .withdraw body
  | .renew => decodeRenew body
  | .transfer => decodeTransfer body
  | .release => decodeLeaseEpoch .release body
  | .stage => decodeStage body
  | .discard => decodeDiscard body
  | .commit => decodeLeaseEpoch .commit body
  | .resume => decodeLeaseEpoch .resume body
  | .park => decodePark body
  | .readNotices => decodeEmpty .readNotices body
  | .queryLease => decodeLeaseOnly .queryLease body
  | .queryChannel => decodeLeaseOnly .queryChannel body
  | .queryDevice => decodeEmpty .queryDevice body

/-- The body bytes of a request (R160 to R162). -/
def HostRequest.body : HostRequest → List Byte
  | .define l d =>
    [nibbleByte l] ++ wordBytes d.channels ++ [nibbleByte d.lead] ++ wordBytes d.termMin ++ wordBytes d.termMax ++
      wordBytes d.grace
  | .undefine l => [nibbleByte l]
  | .configureChannel c a t g => [nibbleByte c, a.byte, t.byte, g.byte]
  | .revoke l => [nibbleByte l]
  | .resetLeases => []
  | .acquire l t w => [nibbleByte l] ++ wordBytes t ++ [flagByte w]
  | .withdraw l => [nibbleByte l]
  | .renew l e t => [nibbleByte l] ++ wordBytes e ++ wordBytes t
  | .transfer l e t => [nibbleByte l] ++ wordBytes e ++ [t.byte]
  | .release l e => [nibbleByte l] ++ wordBytes e
  | .stage l e c ps => [nibbleByte l] ++ wordBytes e ++ [nibbleByte c] ++ ps.bytes
  | .discard l e c => [nibbleByte l] ++ wordBytes e ++ [nibbleByte c]
  | .commit l e => [nibbleByte l] ++ wordBytes e
  | .resume l e => [nibbleByte l] ++ wordBytes e
  | .park l e set => [nibbleByte l] ++ wordBytes e ++ wordBytes set
  | .readNotices => []
  | .queryLease l => [nibbleByte l]
  | .queryChannel c => [nibbleByte c]
  | .queryDevice => []

/-- The command a word spells by the table's bits: no row of spec/opcode_table.json gives bits (its "fields" are empty), so
no word spells one. -/
def decodeTableWord (_nbits _w : Nat) : Option Instr := none

end Sys2Proof
end

