-- ==== Sys2Proof/Machine/State.lean ====
section
/-! DEFINITION. The state of the part as plain data, block by block, with its reset values. -/

namespace Sys2Proof.Machine

/-! ### Lease Engine and Term Timer -/

/-- The five lease states (R10 to R12). -/
inductive LeaseState where
  | undefined
  | vacant
  | held
  | grace
  | lapsing
deriving DecidableEq, Repr

/-- Why a lease lapsed (R7). -/
inductive LapseReason where
  | expired
  | released
  | revoked
  | departed
  | reset
deriving DecidableEq, Repr

/-- One entry of a waiter queue: a port and the term it asked for (R24). -/
structure Waiter where
  port : Port
  term : Word16
deriving DecidableEq, Repr

/-- A lease record (R1, section 1.2). The id is the record's place in the table. The five fields of the definition are
present together (R3), so they stand in one optional record. -/
structure Lease where
  state         : LeaseState
  defn          : Option LeaseDef
  holder        : Option Port
  departing     : Bool
  term          : Option Word16
  epoch         : Word16
  queue         : List Waiter
  commitPending : Bool
  reason        : Option LapseReason
deriving DecidableEq, Repr

/-- The two kinds of deadline (R45). -/
inductive DeadlineKind where
  | term
  | grace
deriving DecidableEq, Repr

/-- A deadline: a kind and an absolute tick (R45). -/
structure Deadline where
  kind : DeadlineKind
  tick : Tick
deriving DecidableEq, Repr

/-! ### Staging Store and Channel Bank -/

/-- A staged set: a parameter set tagged with the epoch it was staged under (R91). -/
structure StagedSet where
  params : ParamSet
  tag    : Word16
deriving DecidableEq, Repr

/-- Channel states (R68). -/
inductive ChannelState where
  | parked
  | running
  | parking
  | ended
deriving DecidableEq, Repr

/-- Count directions (R77). -/
inductive Direction where
  | up
  | down
deriving DecidableEq, Repr

/-- What a pin drives; `float` is high impedance (R70). -/
inductive Level where
  | low
  | high
  | float
deriving DecidableEq, Repr

/-- A channel record (R68). `holdSerial` names the channel's latest boundary hold: every reported period end begins a new
hold, distinct from every earlier one, and its event names it (R80). -/
structure Channel where
  state      : ChannelState
  lease      : Option LeaseId
  parkAction : ParkAction
  parkTiming : ParkTiming
  haltGroup  : HaltGroup
  halted     : Bool
  active     : Option ParamSet
  counter    : Word16
  direction  : Direction
  hold       : Bool
  holdSerial : Nat
  level      : Level
deriving DecidableEq, Repr

/-- A flag for each halt line: true is ASSERTED (R112). -/
structure HaltLevels where
  h0 : Bool
  h1 : Bool
deriving DecidableEq, Repr

/-! ### Port Interface -/

/-- The status codes (R163). -/
inductive Status where
  | ok
  | okLate
  | queued
  | empty
  | waiting
  | frameError
  | unknownRequest
  | badField
  | notSupervisor
  | notDefined
  | alreadyDefined
  | channelTaken
  | busy
  | notHeld
  | notHolder
  | stale
  | alreadyHolder
  | alreadyWaiting
  | notWaiting
  | inGrace
  | commitPending
  | nothingStaged
  | halted
deriving DecidableEq, Repr

/-- A placed request: code, tag and body (R129). -/
structure Request where
  code : Byte
  tag  : Byte
  body : List Byte
deriving DecidableEq, Repr

/-- A response: status, tag and body; the port adds the length and the CRC (R131, R158). -/
structure Response where
  status : Status
  tag    : Byte
  body   : List Byte
deriving DecidableEq, Repr

/-- What the port will shift out next (R122). -/
inductive ResponseSlot where
  | empty
  | waiting
  | ready (r : Response)
deriving DecidableEq, Repr

/-- Whether the host is taken to be alive (R122). -/
inductive Presence where
  | present
  | leaving
  | absent
deriving DecidableEq, Repr

/-- A transaction in progress: the outward frame fixed at the fall of chip select, and whether it is the stored frame of a
READY slot (R125, R127). -/
structure Transaction where
  outward       : List Byte
  carriesAnswer : Bool
deriving DecidableEq, Repr

/-- A port record (R122) with the port's input pins as last sampled (`line` is PRESENTn high, `selected` is CSn_N low) and
what MISOn carried in the last transaction whose work at CS rise was done. -/
structure PortRecord where
  presence    : Presence
  request     : Option Request
  response    : ResponseSlot
  transaction : Option Transaction
  line        : Bool
  selected    : Bool
  miso        : List Bool
deriving DecidableEq, Repr

/-! ### Notice Unit -/

/-- The nine notice kinds (R143). -/
inductive NoticeKind where
  | granted
  | grace
  | lapsed
  | committed
  | commitCancelled
  | halted
  | haltCleared
  | waitCancelled
  | singleEnded
deriving DecidableEq, Repr

/-- A set of notice kinds, numbered as R165 numbers them. -/
abbrev KindSet := BitVec 9

/-- A notice record (R143); its lease is its place in the port's set. -/
structure Notice where
  kinds      : KindSet
  grantEpoch : Option Word16
  lastReason : Option LapseReason
deriving DecidableEq, Repr

/-! ### Events -/

/-- An event raised to the Lease Engine and not yet taken (R46, R80, R113, R135). -/
inductive Event where
  | expiry (l : LeaseId) (kind : DeadlineKind)
  | periodEnd (c : ChannelId) (hold : Nat)
  | haltChange (line : HaltLine) (asserted : Bool)
  | departure (p : Port)
deriving DecidableEq, Repr

/-! ### The whole state -/

/-- The state of the part, and the queue of commands that are waiting. `events` holds the raised events in order of arrival
(R13); the events of one inner list arrived together, and either of them may be taken first (R46). -/
structure State where
  now         : Tick
  leases      : Vector Lease 16
  deadlines   : Vector (Option Deadline) 16
  slots       : Vector (Option StagedSet) 16
  channels    : Vector Channel 16
  haltTaken   : HaltLevels
  haltSampled : HaltLevels
  ports       : Vector PortRecord 4
  arbiter     : Port
  notices     : Vector (Vector (Option Notice) 16) 4
  attn        : Vector Bool 4
  events      : List (List Event)
  pending     : List Instr
deriving DecidableEq, Repr

/-- Stops of the model. None is a behaviour of the part: each marks a command that names a unit the part does not have. -/
inductive Fault where
  /-- Raised by a command that names a lease above 15; the part has sixteen (R1). Safe. -/
  | noSuchLease
  /-- Raised by a command that names a channel above 15; the part has sixteen (R68). Safe. -/
  | noSuchChannel
  /-- Raised by a command that names a port above 3; the part has four (R122). Safe. -/
  | noSuchPort
deriving DecidableEq, Repr

/-- Refusals of the model. -/
inductive Refusal where
  /-- Raised by an arm of `exec` whose command has no meaning yet. Safe. No arm raises it. -/
  | notModelled (mnemonic : String)
deriving DecidableEq, Repr

/-! ### Reset values -/

/-- A lease record after device reset (R1). -/
def Lease.afterReset : Lease :=
  { state := .undefined, defn := none, holder := none, departing := false, term := none, epoch := 0, queue := [],
    commitPending := false, reason := none }

/-- A channel record after device reset (R68). The name of the hold that none has begun yet: DESIGN CHOICE (log 5). -/
def Channel.afterReset : Channel :=
  { state := .parked, lease := none, parkAction := .parkFloat, parkTiming := .atOnce, haltGroup := .none, halted := false,
    active := none, counter := 0, direction := .up, hold := false, holdSerial := 0, level := .float }

/-- A port record after device reset, from the levels its pins show as reset ends (R122). A chip select that is low then
begins no transaction: only a later fall does. -/
def PortRecord.afterReset (line selected : Bool) : PortRecord :=
  { presence := if line then .present else .absent, request := none, response := .empty, transaction := none, line := line,
    selected := selected, miso := [] }

/-- The part right after a device reset that ends with the given pin levels (R1, R44, R45, R68, R91, R112, R122, R143,
R150); every event raised and not yet taken is discarded (R13). -/
def State.afterReset (pins : Pins) : State :=
  { now := 0
    leases := Vector.replicate 16 Lease.afterReset
    deadlines := Vector.replicate 16 none
    slots := Vector.replicate 16 none
    channels := Vector.replicate 16 Channel.afterReset
    haltTaken := { h0 := pins.halt0, h1 := pins.halt1 }
    haltSampled := { h0 := pins.halt0, h1 := pins.halt1 }
    ports := Vector.ofFn fun p => PortRecord.afterReset pins.present[p] pins.chipSelected[p]
    arbiter := 3
    notices := Vector.replicate 4 (Vector.replicate 16 none)
    attn := Vector.replicate 4 false
    events := []
    pending := [] }

/-- The machine right after reset, with the pins idle (DESIGN CHOICE, log 1). -/
def State.reset : State := State.afterReset Config.idlePins

end Sys2Proof.Machine
end

