-- ==== Sys2Proof/Machine/Flags.lean ====
section
/-! DEFINITION. The flag computations: halt conditions, notice kinds, status codes and the other one-byte codes that
responses carry. -/

namespace Sys2Proof.Machine

/-! ### Halt conditions (R112) -/

/-- The level of one line. -/
def HaltLevels.get (h : HaltLevels) : HaltLine → Bool
  | .h0 => h.h0
  | .h1 => h.h1

/-- The levels with one line's level replaced. -/
def HaltLevels.put (h : HaltLevels) (line : HaltLine) (asserted : Bool) : HaltLevels :=
  match line with
  | .h0 => { h with h0 := asserted }
  | .h1 => { h with h1 := asserted }

/-- The halt group contains the line (R112). -/
def groupHas (g : HaltGroup) (line : HaltLine) : Bool :=
  match g, line with
  | .none, _ => false
  | .h0, .h0 => true
  | .h0, .h1 => false
  | .h1, .h0 => false
  | .h1, .h1 => true
  | .both, _ => true

/-- The halt condition of a group at the given levels: some line of the group is ASSERTED (R112). -/
def haltCondition (g : HaltGroup) (h : HaltLevels) : Bool :=
  (groupHas g .h0 && h.h0) || (groupHas g .h1 && h.h1)

/-! ### Notice kinds (R165) -/

/-- The bit of the kinds field that stands for a kind (R165). -/
def NoticeKind.bit : NoticeKind → Nat
  | .granted => 0
  | .grace => 1
  | .lapsed => 2
  | .committed => 3
  | .commitCancelled => 4
  | .halted => 5
  | .haltCleared => 6
  | .waitCancelled => 7
  | .singleEnded => 8

/-- The kind is in the set. -/
def KindSet.has (ks : KindSet) (k : NoticeKind) : Bool := ks.getLsbD k.bit

/-- The set with the kind added: a kind already present stays present once (R144, step 2). -/
def KindSet.add (ks : KindSet) (k : NoticeKind) : KindSet := ks ||| BitVec.twoPow 9 k.bit

/-! ### Codes of responses -/

/-- The status byte (R163). -/
def Status.byte : Status → Byte
  | .ok => 0x00
  | .okLate => 0x01
  | .queued => 0x02
  | .empty => 0x10
  | .waiting => 0x11
  | .frameError => 0x20
  | .unknownRequest => 0x21
  | .badField => 0x22
  | .notSupervisor => 0x30
  | .notDefined => 0x31
  | .alreadyDefined => 0x32
  | .channelTaken => 0x33
  | .busy => 0x34
  | .notHeld => 0x35
  | .notHolder => 0x40
  | .stale => 0x41
  | .alreadyHolder => 0x42
  | .alreadyWaiting => 0x43
  | .notWaiting => 0x44
  | .inGrace => 0x45
  | .commitPending => 0x50
  | .nothingStaged => 0x51
  | .halted => 0x52

/-- The statuses that answer an accepted request (R163). -/
def Status.accepts : Status → Bool
  | .ok => true
  | .okLate => true
  | .queued => true
  | _ => false

/-- The lease state byte (R166). -/
def LeaseState.byte : LeaseState → Byte
  | .undefined => 0
  | .vacant => 1
  | .held => 2
  | .grace => 3
  | .lapsing => 4

/-- The lapse reason byte; 0 is absent (R165). -/
def LapseReason.byte : LapseReason → Byte
  | .expired => 1
  | .released => 2
  | .revoked => 3
  | .departed => 4
  | .reset => 5

/-- An optional lapse reason; 0 is absent (R165, R166). -/
def reasonByte (r : Option LapseReason) : Byte := r.elim 0 LapseReason.byte

/-- The deadline kind byte (R166). -/
def DeadlineKind.byte : DeadlineKind → Byte
  | .term => 1
  | .grace => 2

/-- The channel state byte (R167). -/
def ChannelState.byte : ChannelState → Byte
  | .parked => 0
  | .running => 1
  | .parking => 2
  | .ended => 3

/-- The direction byte (R167). -/
def Direction.byte : Direction → Byte
  | .up => 0
  | .down => 1

/-- The presence byte (R167). -/
def Presence.byte : Presence → Byte
  | .absent => 0
  | .present => 1
  | .leaving => 2

/-- A holder byte: the port, or 0xFF for none (R164, R166). -/
def holderByte (h : Option Port) : Byte := h.elim 0xFF portByte

end Sys2Proof.Machine
end

