-- ==== Sys2Proof/Machine/Frames.lean ====
section
/-! DEFINITION. Frames on the wire: bits and bytes (R124), the CRC-8 (R159), outward frames (R125, R158) and the check of
inward ones (R126, R128). -/

namespace Sys2Proof.Machine

/-! ### Bits and bytes (R124) -/

/-- The bits of a byte, most significant first. -/
def bitsOfByte (b : Byte) : List Bool :=
  [b.getLsbD 7, b.getLsbD 6, b.getLsbD 5, b.getLsbD 4, b.getLsbD 3, b.getLsbD 2, b.getLsbD 1, b.getLsbD 0]

/-- The bits of a run of bytes, in the order they travel. -/
def bitsOf : List Byte → List Bool
  | [] => []
  | b :: rest => bitsOfByte b ++ bitsOf rest

/-- The value of one bit. -/
def bitValue (b : Bool) : Nat := if b then 1 else 0

/-- The byte that eight bits make, the first sampled being the most significant. -/
def byteOfBits (b7 b6 b5 b4 b3 b2 b1 b0 : Bool) : Byte :=
  BitVec.ofNat 8 (bitValue b7 * 128 + bitValue b6 * 64 + bitValue b5 * 32 + bitValue b4 * 16 + bitValue b3 * 8 +
    bitValue b2 * 4 + bitValue b1 * 2 + bitValue b0)

/-- The whole bytes of a run of sampled bits: the bits of an unfinished last byte count for nothing (R124). -/
def bytesOf : List Bool → List Byte
  | b7 :: b6 :: b5 :: b4 :: b3 :: b2 :: b1 :: b0 :: rest => byteOfBits b7 b6 b5 b4 b3 b2 b1 b0 :: bytesOf rest
  | _ => []

/-! ### The frame check (R159) -/

/-- One step of the check register: shift left, and combine with the polynomial if a 1 was shifted out. -/
def crcStep (r : Byte) : Byte := if r.getLsbD 7 then (r <<< 1) ^^^ Config.crcPoly else r <<< 1

/-- Feeding one byte: combine it in, then eight steps. -/
def crcByte (r b : Byte) : Byte :=
  crcStep (crcStep (crcStep (crcStep (crcStep (crcStep (crcStep (crcStep (r ^^^ b))))))))

/-- The register after a run of bytes, from a given register. -/
def crcFrom (r : Byte) (bytes : List Byte) : Byte := bytes.foldl crcByte r

/-- The CRC-8 of a run of bytes. -/
def crc8 (bytes : List Byte) : Byte := crcFrom Config.crcInit bytes

/-! ### Outward frames -/

/-- A frame: header, body and the CRC over every byte before it (R158). -/
def frameOf (first tag : Byte) (body : List Byte) : List Byte :=
  let covered := [first, tag, BitVec.ofNat 8 body.length] ++ body
  covered ++ [crc8 covered]

/-- The frame of a stored response (R131, R158). -/
def Response.frame (r : Response) : List Byte := frameOf r.status.byte r.tag r.body

/-- The outward frame a transaction shifts, fixed from the slots as they stand at the fall of chip select (R125). -/
def PortRecord.outwardFrame (pr : PortRecord) : List Byte :=
  match pr.response with
  | .empty => frameOf Status.empty.byte 0 []
  | .waiting => frameOf Status.waiting.byte (pr.request.elim 0 Request.tag) []
  | .ready r => r.frame

/-- The outward frame is the stored frame of a READY slot (R127). -/
def ResponseSlot.isReady : ResponseSlot → Bool
  | .empty => false
  | .waiting => false
  | .ready _ => true

/-- The first `n` bits shifted out of a frame: the frame's bits, then fill bytes of all ones (R125). -/
def shiftedBits (frame : List Byte) (n : Nat) : List Bool := (bitsOf frame ++ List.replicate n true).take n

/-! ### Inward frames -/

/-- What a transaction brought in (R126, R128, R130). -/
inductive Inward where
  /-- No whole byte was clocked, or the first was 0. -/
  | nop
  /-- A valid frame, and the request it carries. -/
  | valid (r : Request)
  /-- An invalid frame, and the tag to answer it with: its second byte if that was clocked, else 0. -/
  | invalid (tag : Byte)
deriving DecidableEq, Repr

/-- The frame is valid: three bytes clocked and a length of 60 or less, the whole frame clocked, and the CRC right (R128). -/
def frameValid (bytes : List Byte) : Bool :=
  match bytes with
  | _ :: _ :: len :: _ =>
    len.toNat ≤ Config.maxBody && len.toNat + 4 ≤ bytes.length &&
      bytes[3 + len.toNat]? == some (crc8 (bytes.take (3 + len.toNat)))
  | _ => false

/-- Reading the bytes clocked in a transaction (R126, R128). -/
def readInward (bytes : List Byte) : Inward :=
  match bytes with
  | [] => .nop
  | [code] => if code = 0 then .nop else .invalid 0
  | [code, tag] => if code = 0 then .nop else .invalid tag
  | code :: tag :: len :: rest =>
    if code = 0 then .nop
    else if frameValid bytes then .valid { code := code, tag := tag, body := rest.take len.toNat }
    else .invalid tag

end Sys2Proof.Machine
end

