-- ==== Sys2Proof/Machine/Generate.lean ====
section
/-! DEFINITION. Waveform generation: levels, counts and period ends in the three modes (R70, R76 to R80), starts (R74) and
parks (R83, R84), each as a function of one channel record. -/

namespace Sys2Proof.Machine

/-- The level the pin drives while the output is active, or while it is not (R70). -/
def polarityLevel (p : Polarity) (active : Bool) : Level :=
  match p, active with
  | .activeHigh, true => .high
  | .activeHigh, false => .low
  | .activeLow, true => .low
  | .activeLow, false => .high

/-- The level a counter value gives: active while it is below the width (R76, R77, R78). -/
def countLevel (ps : ParamSet) (counter : Word16) : Level := polarityLevel ps.polarity (counter < ps.width)

/-- The inactive level of a set's polarity (R78, R82). -/
def inactiveLevel (ps : ParamSet) : Level := polarityLevel ps.polarity false

/-- The current count is the last of its period: what follows it is a period end (R76, R77, R78). -/
def lastCount (ps : ParamSet) (counter : Word16) (dir : Direction) : Bool :=
  match ps.mode with
  | .edge => counter + 1 == ps.period
  | .single => counter + 1 == ps.period
  | .centre => dir == .down && counter == 1

/-- The count after one that is not the last of its period (R76, R77, R78). -/
def nextCount (ps : ParamSet) (counter : Word16) (dir : Direction) : Word16 × Direction :=
  match ps.mode with
  | .edge => (counter + 1, .up)
  | .single => (counter + 1, .up)
  | .centre =>
    match dir with
    | .up => if counter == ps.period then (ps.period - 1, .down) else (counter + 1, .up)
    | .down => (counter - 1, .down)

/-- The level held under a boundary hold (R80): the level of the last count of the period, or the inactive level in
SINGLE. -/
def holdLevel (ps : ParamSet) : Level :=
  match ps.mode with
  | .edge => polarityLevel ps.polarity (ps.period ≤ ps.width)
  | .centre => polarityLevel ps.polarity (2#16 ≤ ps.width)
  | .single => inactiveLevel ps

/-- The channel is counting: RUNNING or PARKING, and under no boundary hold (R80, R85). -/
def Channel.counting (ch : Channel) : Bool := (ch.state == .running || ch.state == .parking) && !ch.hold

/-- The channel steps to the next count, with the level the new counter value gives (R70, R71). -/
def Channel.advanced (ch : Channel) (ps : ParamSet) : Channel :=
  let n := nextCount ps ch.counter ch.direction
  { ch with counter := n.1, direction := n.2, level := countLevel ps n.1 }

/-- The channel counts on from 0, UP, with the level the counter gives, any hold ended (R76, R77, R81). -/
def Channel.countedOn (ch : Channel) (ps : ParamSet) : Channel :=
  { ch with counter := 0, direction := .up, hold := false, level := countLevel ps 0 }

/-- The channel stops at a reported period end under a new boundary hold (R80). -/
def Channel.heldAtEnd (ch : Channel) (ps : ParamSet) : Channel :=
  { ch with counter := 0, direction := .up, hold := true, holdSerial := ch.holdSerial + 1, level := holdLevel ps }

/-- The channel goes ENDED at the take of its SINGLE end (R78, R82). -/
def Channel.endedSingle (ch : Channel) (ps : ParamSet) : Channel :=
  { ch with state := .ended, counter := 0, direction := .up, hold := false, level := inactiveLevel ps }

/-- A start on a set (R74). The active set is the caller's to write (R99). -/
def Channel.started (ch : Channel) (ps : ParamSet) : Channel :=
  { ch with state := .running, counter := ps.phase, direction := .up, hold := false, level := countLevel ps ps.phase }

/-- The level a park action gives, from the level the pin drove at the instant (R83). -/
def parkLevel (a : ParkAction) (present : Level) : Level :=
  match a with
  | .parkLow => .low
  | .parkHigh => .high
  | .parkFloat => .float
  | .parkHold => present

/-- A park at once: the counter stops where it is, any hold ends, and the pin drives the park level. A channel already
PARKED is left as it is (R84). -/
def Channel.parked (ch : Channel) : Channel :=
  if ch.state = .parked then ch
  else { ch with state := .parked, hold := false, level := parkLevel ch.parkAction ch.level }

/-- What a lapse start does to a channel (R56): `allAtOnce` sets park timing aside, as reason REVOKED does. -/
def Channel.lapsed (ch : Channel) (allAtOnce : Bool) : Channel :=
  match ch.state with
  | .running => if allAtOnce || ch.parkTiming == .atOnce then ch.parked else { ch with state := .parking }
  | .ended => ch.parked
  | .parked => ch
  | .parking => if allAtOnce then ch.parked else ch

end Sys2Proof.Machine
end

