-- ==== Sys2Proof/Machine/Ops.lean ====
section
/-! DEFINITION. The named operations over the state: reading and writing the tables, raising and withdrawing events, setting
deadlines, purging, posting notices, granting, lapsing and executing commits. Every meaning is written over these. -/

namespace Sys2Proof.Machine

/-! ### Walking the tables -/

/-- L0 to L15 in increasing number (R2). -/
def leaseIds : List LeaseId := [0, 1, 2, 3, 4, 5, 6, 7, 8, 9, 10, 11, 12, 13, 14, 15]

/-- CH0 to CH15 in increasing number (R114). -/
def channelIds : List ChannelId := [0, 1, 2, 3, 4, 5, 6, 7, 8, 9, 10, 11, 12, 13, 14, 15]

/-- Working through the leases in increasing number, one after the other (R2). -/
def State.eachLease (s : State) (f : LeaseId → State → State) : State := leaseIds.foldl (fun t l => f l t) s

/-- How many channels satisfy a condition. -/
def countChannels (p : ChannelId → Bool) : Nat := (channelIds.filter p).length

/-! ### Writing one record -/

/-- Replace one lease record. -/
def State.modLease (s : State) (l : LeaseId) (f : Lease → Lease) : State :=
  { s with leases := s.leases.set l.val (f s.leases[l]) }

/-- Replace one channel record. -/
def State.modChannel (s : State) (c : ChannelId) (f : Channel → Channel) : State :=
  { s with channels := s.channels.set c.val (f s.channels[c]) }

/-- Replace every channel record at one instant (R75). -/
def State.mapChannels (s : State) (f : ChannelId → Channel → Channel) : State :=
  { s with channels := Vector.ofFn fun c => f c s.channels[c] }

/-- Write one staging slot (R91). -/
def State.setSlot (s : State) (c : ChannelId) (x : Option StagedSet) : State :=
  { s with slots := s.slots.set c.val x }

/-- Replace one port record. -/
def State.modPort (s : State) (p : Port) (f : PortRecord → PortRecord) : State :=
  { s with ports := s.ports.set p.val (f s.ports[p]) }

/-! ### Reading leases -/

/-- The channel set of a lease; an UNDEFINED lease has no channels (R10). -/
def Lease.channelSet (r : Lease) : ChannelSet := r.defn.elim 0 LeaseDef.channels

/-- The channel is a member of the lease's channel set. -/
def State.inLease (s : State) (l : LeaseId) (c : ChannelId) : Bool := s.leases[l].channelSet.getLsbD c.val

/-- The lease is in HELD or GRACE, where it has a holder (R6). -/
def Lease.live (r : Lease) : Bool := r.state == .held || r.state == .grace

/-- The port is the holder of the lease in HELD or GRACE; a departing holder is not (R6, R22). -/
def Lease.heldBy (r : Lease) (p : Port) : Bool := r.live && r.holder == some p

/-- The channel is the lead channel of the lease. -/
def Lease.hasLead (r : Lease) (c : ChannelId) : Bool := r.defn.elim false fun d => d.lead == c

/-- The entry of a port in the waiter queue (R25). -/
def Lease.entryOf (r : Lease) (p : Port) : Option Waiter := r.queue.find? fun w => w.port == p

/-- The queue without a port's entry; the others keep their order (R24). -/
def Lease.queueWithout (r : Lease) (p : Port) : List Waiter := r.queue.filter fun w => w.port != p

/-- The term lies within the lease's term min to term max (R5, R20). -/
def Lease.termWithin (r : Lease) (t : Word16) : Bool := r.defn.elim false fun d => d.termMin ≤ t && t ≤ d.termMax

/-- The channels of the lease that are in a state (R56, R62). -/
def State.countInState (s : State) (l : LeaseId) (st : ChannelState) : Nat :=
  countChannels fun c => s.inLease l c && s.channels[c].state == st

/-- The channels of the lease that hold staged sets (R97). -/
def State.countStaged (s : State) (l : LeaseId) : Nat :=
  countChannels fun c => s.inLease l c && s.slots[c].isSome

/-- Some channel of the lease carries a halted mark (R96). -/
def State.anyHalted (s : State) (l : LeaseId) : Bool :=
  channelIds.any fun c => s.inLease l c && s.channels[c].halted

/-! ### Events -/

/-- Raise events that arrive together, behind those already waiting (R13, R46). -/
def State.raise (s : State) (es : List Event) : State :=
  if es = [] then s else { s with events := s.events ++ [es] }

/-- The arrivals without the events that satisfy a condition. -/
def withoutEvents (p : Event → Bool) (events : List (List Event)) : List (List Event) :=
  (events.map fun b => b.filter fun e => !p e).filter fun b => b != []

/-- The events that may be taken next: those that arrived first (R13). -/
def State.due (s : State) : List Event := s.events.headD []

/-- Take an event out of those due. -/
def State.dropDue (s : State) (e : Event) : State :=
  match s.events with
  | [] => s
  | b :: rest =>
    let left := b.erase e
    { s with events := if left = [] then rest else left :: rest }

/-- The event is an expiry of the lease. -/
def Event.isExpiryOf (e : Event) (l : LeaseId) : Bool :=
  match e with
  | .expiry l' _ => l' == l
  | _ => false

/-- The event is a halt change of the line. -/
def Event.isChangeOf (e : Event) (line : HaltLine) : Bool :=
  match e with
  | .haltChange line' _ => line' == line
  | _ => false

/-- Some event that satisfies a condition is waiting. -/
def State.waitingEvent (s : State) (p : Event → Bool) : Bool := s.events.any fun b => b.any p

/-- The hold named by the period-end event of the channel that is due, if one is (R81). -/
def State.duePeriodEnd (s : State) (c : ChannelId) : Option Nat :=
  s.due.findSome? fun e =>
    match e with
    | .periodEnd c' n => if c' = c then some n else none
    | _ => none

/-! ### Deadlines (R45, R46) -/

/-- Set or clear a lease's deadline; a raised expiry of the lease that has not been taken is withdrawn (R46). -/
def State.setDeadline (s : State) (l : LeaseId) (d : Option Deadline) : State :=
  { s with deadlines := s.deadlines.set l.val d, events := withoutEvents (fun e => e.isExpiryOf l) s.events }

/-- The absolute tick `n` ticks after now, modulo 2^32 (R44, R45). -/
def State.tickAfter (s : State) (n : Word16) : Tick := s.now + n.setWidth 32

/-! ### Staging (R92) -/

/-- Empty the staging slots of every channel of a lease (R92). -/
def State.purge (s : State) (l : LeaseId) : State :=
  { s with slots := Vector.ofFn fun c => if s.inLease l c then none else s.slots[c] }

/-! ### Notices (R144) -/

/-- A post: a kind, with the grant epoch of GRANTED and the reason of LAPSED (R144). -/
inductive Post where
  | granted (epoch : Word16)
  | grace
  | lapsed (reason : LapseReason)
  | committed
  | commitCancelled
  | halted
  | haltCleared
  | waitCancelled
  | singleEnded
deriving DecidableEq, Repr

/-- The kind a post adds. -/
def Post.kind : Post → NoticeKind
  | .granted _ => .granted
  | .grace => .grace
  | .lapsed _ => .lapsed
  | .committed => .committed
  | .commitCancelled => .commitCancelled
  | .halted => .halted
  | .haltCleared => .haltCleared
  | .waitCancelled => .waitCancelled
  | .singleEnded => .singleEnded

/-- A new record, before its first kind (R144, step 1). -/
def Notice.blank : Notice := { kinds := 0, grantEpoch := none, lastReason := none }

/-- The record after a post (R144, steps 2 to 4). -/
def Notice.add (n : Notice) (k : Post) : Notice :=
  { kinds := n.kinds.add k.kind
    grantEpoch := match k with
      | .granted e => some e
      | _ => n.grantEpoch
    lastReason := match k with
      | .lapsed r => some r
      | _ => n.lastReason }

/-- The notice set holds no record. -/
def noticeSetEmpty (v : Vector (Option Notice) 16) : Bool := leaseIds.all fun l => v[l].isNone

/-- Post a notice to a port for a lease; a post into an empty set asserts ATTN (R144, R150). -/
def State.post (s : State) (p : Port) (l : LeaseId) (k : Post) : State :=
  { s with
    notices := s.notices.set p.val (s.notices[p].set l.val (some ((s.notices[p][l].getD Notice.blank).add k)))
    attn := if noticeSetEmpty s.notices[p] then s.attn.set p.val true else s.attn }

/-- Post to the holder named by the lease record, where there is one (R145). -/
def State.postHolder (s : State) (l : LeaseId) (k : Post) : State :=
  match s.leases[l].holder with
  | some p => s.post p l k
  | none => s

/-- Replace a port's notice set by what is left of it; an emptied set releases ATTN (R146, R150, R151). -/
def State.setNotices (s : State) (p : Port) (v : Vector (Option Notice) 16) : State :=
  { s with
    notices := s.notices.set p.val v
    attn := if noticeSetEmpty v then s.attn.set p.val false else s.attn }

/-! ### Grants (R33) -/

/-- The successor of an epoch: 65,535 is followed by 1 (R14). -/
def nextEpoch (e : Word16) : Word16 := if e = 65535 then 1 else e + 1

/-- The lease record after a grant (R33, steps 1 to 4). -/
def Lease.granted (r : Lease) (p : Port) (term : Word16) : Lease :=
  { r with state := .held, holder := some p, departing := false, term := some term, epoch := nextEpoch r.epoch,
           reason := none }

/-- A grant of the lease to a port (R33). The granted port's queue entry, where there is one, is removed by the caller. -/
def State.grant (s : State) (l : LeaseId) (p : Port) (term : Word16) : State :=
  (((s.modLease l fun r => r.granted p term).setDeadline l (some { kind := .term, tick := s.tickAfter term })).purge l).post
    p l (.granted (nextEpoch s.leases[l].epoch))

/-! ### Parking -/

/-- Park at once every channel of the lease (R65, R84). -/
def State.parkLease (s : State) (l : LeaseId) : State :=
  s.mapChannels fun c ch => if s.inLease l c then ch.parked else ch

/-- Some channel of the lease is PARKING (R58). -/
def State.anyParking (s : State) (l : LeaseId) : Bool :=
  channelIds.any fun c => s.inLease l c && s.channels[c].state == .parking

/-! ### Lapse (R55 to R61) -/

/-- The lapse reasons that post LAPSED to the holder at the lapse start (R57). -/
def LapseReason.posts : LapseReason → Bool
  | .expired => true
  | .released => false
  | .revoked => true
  | .departed => false
  | .reset => true

/-- The lease record after a lapse start (R55, steps 1 to 5). -/
def Lease.lapseStarted (r : Lease) (reason : LapseReason) : Lease :=
  { r with state := .lapsing, departing := true, term := none, commitPending := false, reason := some reason }

/-- The start of a lapse (R55): the record, the deadline, the purge, the channels by R56, and the notice. -/
def State.lapseStart (s : State) (l : LeaseId) (reason : LapseReason) : State :=
  let t := ((s.modLease l fun r => r.lapseStarted reason).setDeadline l none).purge l
  let u := t.mapChannels fun c ch => if t.inLease l c then ch.lapsed (reason == .revoked) else ch
  if reason.posts then u.postHolder l (.lapsed reason) else u

/-- The lease record when its departing holder and its reason are cleared (R61, steps 2 and 3), going VACANT. -/
def Lease.vacated (r : Lease) : Lease :=
  { r with state := .vacant, holder := none, departing := false, term := none, reason := none }

/-- Lapse completion: a grant to the queue head as it stands, or VACANT (R35, R61). -/
def State.lapseComplete (s : State) (l : LeaseId) : State :=
  let t := (s.purge l).modLease l fun r => r.vacated
  match t.leases[l].queue with
  | [] => t.setDeadline l none
  | w :: rest => (t.modLease l fun r => { r with queue := rest }).grant l w.port w.term

/-- The lapse of a LAPSING lease completes in the event that leaves no channel of it PARKING (R58, R61). -/
def State.completeIfParked (s : State) (l : LeaseId) : State :=
  if s.leases[l].state = .lapsing && !s.anyParking l then s.lapseComplete l else s

/-- A lapse: its start, and its completion in the same take if no channel is left PARKING (R55). -/
def State.lapse (s : State) (l : LeaseId) (reason : LapseReason) : State :=
  (s.lapseStart l reason).completeIfParked l

/-! ### Commits (R99) -/

/-- Every channel of the lease with a staged set takes it as its active set and starts, all at one instant (R75, R99). -/
def State.startStaged (s : State) (l : LeaseId) : State :=
  s.mapChannels fun c ch =>
    match (if s.inLease l c then s.slots[c] else none) with
    | some x => { (ch.started x.params) with active := some x.params }
    | none => ch

/-- The execution of a commit (R99): the staged channels start, their slots empty, commit pending becomes no, and COMMITTED
is posted to the holder. -/
def State.executeCommit (s : State) (l : LeaseId) : State :=
  (((s.startStaged l).purge l).modLease l fun r => { r with commitPending := false }).postHolder l .committed

end Sys2Proof.Machine
end

