-- ==== Sys2Proof/Machine/Operands.lean ====
section
/-! DEFINITION. The operands of commands: the unit a command names, the request a take takes (R131, R132), the event a take
takes (R13), and the checks common to requests (R21, R22). -/

namespace Sys2Proof.Machine

/-- What a command's meaning answers. -/
abbrev Answer := Host.Outcome State Fault Refusal

/-! ### Units -/

/-- A command about a lease; a number above 15 names none (R1). -/
def onLease (n : Nat) (k : LeaseId → State) : Answer := if h : n < 16 then .next (k ⟨n, h⟩) else .fault .noSuchLease

/-- A command about a channel; a number above 15 names none (R68). -/
def onChannel (n : Nat) (k : ChannelId → State) : Answer := if h : n < 16 then .next (k ⟨n, h⟩) else .fault .noSuchChannel

/-- A command about a port; a number above 3 names none (R122). -/
def onPort (n : Nat) (k : Port → State) : Answer := if h : n < 4 then .next (k ⟨n, h⟩) else .fault .noSuchPort

/-! ### The take of an event -/

/-- The take of an event that is due; where it is not, nothing is taken (DESIGN CHOICE, safe, log 2). -/
def State.takeEvent (s : State) (e : Event) (k : State → State) : State :=
  if e ∈ s.due then k (s.dropDue e) else s

/-! ### The take of a request -/

/-- The order of the arbiter's search: from the port after the one served last, round to that port itself (R132). -/
def searchOrder (last : Port) : List Port := [last + 1, last + 2, last + 3, last]

/-- The request the arbiter hands over next, with its port (R132, R141). The search includes every request whose CS_RISE ran before
the take, and none whose CS_RISE comes after it: R132 leaves a request placed just before the search, or at its moment, open
(DESIGN CHOICE, safe, log 12). -/
def State.nextRequest (s : State) : Option (Port × Request) :=
  (searchOrder s.arbiter).findSome? fun p => (s.ports[p].request).map fun r => (p, r)

/-- How a request is judged: refused with a status, or accepted with a status, a body and the state it leaves (R23, R131). -/
inductive Judgement where
  | refuse (st : Status)
  | accept (st : Status) (body : List Byte) (s : State)
deriving DecidableEq, Repr

/-- Write the response: the port's slot becomes READY, its request slot empty, and the pointer names the port (R131, R132). -/
def State.respond (s : State) (p : Port) (st : Status) (tag : Byte) (body : List Byte) : State :=
  { (s.modPort p fun pr => { pr with request := none, response := .ready { status := st, tag := tag, body := body } }) with
    arbiter := p }

/-- Answer a taken request. A refused one leaves the rest of the part as it found it (R23). -/
def State.answer (s : State) (p : Port) (tag : Byte) (j : Judgement) : State :=
  match j with
  | .refuse st => s.respond p st tag []
  | .accept st body t => t.respond p st tag body

/-- The take of a request of code `k`: the arbiter's next request, judged and answered within the take (R131). Where the next
request has another code, or there is none, this command takes nothing (DESIGN CHOICE, safe, log 2; R132). -/
def State.takeRequest (s : State) (k : ReqCode) (judge : Port → HostRequest → Judgement) : State :=
  match s.nextRequest with
  | some (p, r) =>
    if r.code = k.byte then
      match decodeBody k r.body with
      | some q => s.answer p r.tag (judge p q)
      | none => s.answer p r.tag (.refuse .badField)
    else s
  | none => s

/-! ### Common checks -/

/-- The supervisor port (R140). -/
def supervisor : Port := 0

/-- Checks made in order, the first that fails answering (R21, R22). -/
def firstFailure : List (Bool × Status) → Option Status
  | [] => none
  | (failed, st) :: rest => if failed then some st else firstFailure rest

/-- Refuse with the first failing check, or go on. -/
def checked (checks : List (Bool × Status)) (k : Judgement) : Judgement :=
  match firstFailure checks with
  | some st => .refuse st
  | none => k

/-- Step 3 of the common checks (R21). -/
def supervisorCheck (p : Port) : Bool × Status := (p != supervisor, .notSupervisor)

/-- Step 4 of the common checks (R21). -/
def State.definedCheck (s : State) (l : LeaseId) : Bool × Status := (s.leases[l].state == .undefined, .notDefined)

/-- The defined check and the holder checks of a holder request (R21 step 4, R22): holder, epoch, and the state step, which
only RENEW, RELEASE, DISCARD and PARK pass in GRACE. -/
def State.holderChecks (s : State) (p : Port) (l : LeaseId) (epoch : Word16) (passesGrace : Bool) : List (Bool × Status) :=
  [s.definedCheck l,
   (!s.leases[l].heldBy p, .notHolder),
   (s.leases[l].epoch != epoch, .stale),
   (s.leases[l].state == .grace && !passesGrace, .inGrace)]

/-- A count in one byte. -/
def countByte (n : Nat) : Byte := BitVec.ofNat 8 n

end Sys2Proof.Machine
end

