-- ==== Sys2Proof/Machine/Claims.lean ====
section
/-! DEFINITION. Claiming, keeping and giving up a lease: ACQUIRE, WITHDRAW, RENEW, TRANSFER and RELEASE. -/

namespace Sys2Proof.Machine

/-- ACQUIRE judged by the lease's state at the take (R28). -/
def State.acquireByState (s : State) (p : Port) (l : LeaseId) (term : Word16) (wait : Bool) : Judgement :=
  if s.leases[l].state = .vacant then
    .accept .ok (wordBytes (nextEpoch s.leases[l].epoch)) (s.grant l p term)
  else if s.leases[l].heldBy p then .refuse .alreadyHolder
  else if (s.leases[l].entryOf p).isSome then .refuse .alreadyWaiting
  else if wait then
    .accept .queued [countByte (s.leases[l].queue.length + 1)]
      (s.modLease l fun r => { r with queue := r.queue ++ [{ port := p, term := term }] })
  else .refuse .busy

/-- The judgement of an ACQUIRE (R27, R28). -/
def State.judgeAcquire (s : State) (p : Port) (l : LeaseId) (term : Word16) (wait : Bool) : Judgement :=
  checked [s.definedCheck l, (!s.leases[l].termWithin term, .badField)] (s.acquireByState p l term wait)

/-- ACQUIRE (R27 to R29). -/
def execAcquire (s : State) : Answer :=
  .next (s.takeRequest .acquire fun p q =>
    match q with
    | .acquire l t w => s.judgeAcquire p l t w
    | _ => .refuse .badField)

/-- The judgement of a WITHDRAW (R31). -/
def State.judgeWithdraw (s : State) (p : Port) (l : LeaseId) : Judgement :=
  checked [s.definedCheck l, ((s.leases[l].entryOf p).isNone, .notWaiting)]
    (.accept .ok [] (s.modLease l fun r => { r with queue := r.queueWithout p }))

/-- WITHDRAW (R31). -/
def execWithdraw (s : State) : Answer :=
  .next (s.takeRequest .withdraw fun p q =>
    match q with
    | .withdraw l => s.judgeWithdraw p l
    | _ => .refuse .badField)

/-- The term in force after a RENEW: the new term, or the old one where the new term is 0 (R50). -/
def Lease.renewedTerm (r : Lease) (newTerm : Word16) : Word16 := if newTerm = 0 then r.term.getD 0 else newTerm

/-- An accepted RENEW: HELD, with a TERM deadline one term from now (R50). -/
def State.renewed (s : State) (l : LeaseId) (newTerm : Word16) : State :=
  (s.modLease l fun r => { r with state := .held, term := some (r.renewedTerm newTerm) }).setDeadline l
    (some { kind := .term, tick := s.tickAfter (s.leases[l].renewedTerm newTerm) })

/-- The judgement of a RENEW: OK in HELD, OK_LATE in GRACE (R49, R50). -/
def State.judgeRenew (s : State) (p : Port) (l : LeaseId) (epoch newTerm : Word16) : Judgement :=
  checked
    (s.holderChecks p l epoch true ++ [(newTerm != 0 && !s.leases[l].termWithin newTerm, .badField)])
    (.accept (if s.leases[l].state = .grace then .okLate else .ok) (wordBytes (s.leases[l].renewedTerm newTerm))
      (s.renewed l newTerm))

/-- RENEW (R49, R50). -/
def execRenew (s : State) : Answer :=
  .next (s.takeRequest .renew fun p q =>
    match q with
    | .renew l e t => s.judgeRenew p l e t
    | _ => .refuse .badField)

/-- The queue entry a TRANSFER's target names, resolved at the take (R26, R38). -/
def Lease.targetEntry (r : Lease) (t : Target) : Option Waiter :=
  match t with
  | .port p => r.entryOf p
  | .next => r.queue.head?

/-- An accepted TRANSFER: the target's entry is removed and the lease is granted to it; the channels run on (R39). -/
def State.transferred (s : State) (l : LeaseId) (w : Waiter) : State :=
  (s.modLease l fun r => { r with queue := r.queueWithout w.port }).grant l w.port w.term

/-- The judgement of a TRANSFER (R38, R39). -/
def State.judgeTransfer (s : State) (p : Port) (l : LeaseId) (epoch : Word16) (target : Target) : Judgement :=
  checked (s.holderChecks p l epoch false ++ [(s.leases[l].commitPending, .commitPending)])
    (match s.leases[l].targetEntry target with
     | some w => .accept .ok (portByte w.port :: wordBytes (nextEpoch s.leases[l].epoch)) (s.transferred l w)
     | none => .refuse .notWaiting)

/-- TRANSFER (R38, R39). -/
def execTransfer (s : State) : Answer :=
  .next (s.takeRequest .transfer fun p q =>
    match q with
    | .transfer l e t => s.judgeTransfer p l e t
    | _ => .refuse .badField)

/-- The judgement of a RELEASE: a lapse with reason RELEASED, answered with the number of channels its start left PARKING
(R62). -/
def State.judgeRelease (s : State) (p : Port) (l : LeaseId) (epoch : Word16) : Judgement :=
  checked (s.holderChecks p l epoch true)
    (.accept .ok [countByte ((s.lapseStart l .released).countInState l .parking)] (s.lapse l .released))

/-- RELEASE (R62). -/
def execRelease (s : State) : Answer :=
  .next (s.takeRequest .release fun p q =>
    match q with
    | .release l e => s.judgeRelease p l e
    | _ => .refuse .badField)

end Sys2Proof.Machine
end

