-- ==== Sys2Proof/Machine/Counting.lean ====
section
/-! DEFINITION. The Channel Bank's own commands: COUNT, PERIOD_END and PERIOD_END_TAKE. -/

namespace Sys2Proof.Machine

/-- The channel is the lead of its lease, and that lease has commit pending: found through the channel's lease field (R69,
R80). -/
def State.leadPending (s : State) (c : ChannelId) : Option LeaseId :=
  match s.channels[c].lease with
  | some l => if s.leases[l].hasLead c && s.leases[l].commitPending then some l else none
  | none => none

/-- A period end of the channel is reported: it is PARKING, its set is SINGLE, or it is a lead with a commit pending (R80). -/
def State.reportsPeriodEnd (s : State) (c : ChannelId) (ps : ParamSet) : Bool :=
  s.channels[c].state == .parking || ps.mode == .single || (s.leadPending c).isSome

/-- The end of one count of a counting channel, where no reported period end follows it (R71, R76, R77, R80). -/
def State.counted (s : State) (c : ChannelId) : State :=
  match s.channels[c].active with
  | some ps =>
    if s.channels[c].counting then
      if lastCount ps s.channels[c].counter s.channels[c].direction then
        if s.reportsPeriodEnd c ps then s else s.modChannel c fun ch => ch.countedOn ps
      else s.modChannel c fun ch => ch.advanced ps
    else s
  | none => s

/-- COUNT: one count of the channel's divided clock ends (R71). The counter advances by its mode, turns at the top of a CENTRE
count, and wraps or turns at a period end that is not reported; a period end that must be reported is PERIOD_END's, and
leaves COUNT nothing to do (DESIGN CHOICE, safe, log 2). -/
def execCount (channel : Nat) (s : State) : Answer := onChannel channel fun c => s.counted c

/-- A reported period end: the channel stops at 0, UP under a new boundary hold, and raises a period-end event that names the
hold (R80). -/
def State.periodEnded (s : State) (c : ChannelId) : State :=
  match s.channels[c].active with
  | some ps =>
    if s.channels[c].counting && lastCount ps s.channels[c].counter s.channels[c].direction && s.reportsPeriodEnd c ps then
      (s.modChannel c fun ch => ch.heldAtEnd ps).raise [.periodEnd c (s.channels[c].holdSerial + 1)]
    else s
  | none => s

/-- PERIOD_END: the channel's last count ends at a period end that must be reported (R80). -/
def execPeriodEnd (channel : Nat) (s : State) : Answer := onChannel channel fun c => s.periodEnded c

/-- Post to the holder of a channel's lease (R81, R145). -/
def State.postChannelHolder (s : State) (c : ChannelId) (k : Post) : State :=
  match s.channels[c].lease with
  | some l => s.postHolder l k
  | none => s

/-- The last two cases of R81: a SINGLE channel goes ENDED and SINGLE_ENDED is posted; any other counts on from 0, UP. -/
def State.boundaryPassed (s : State) (c : ChannelId) : State :=
  match s.channels[c].active with
  | some ps =>
    if ps.mode = .single then (s.modChannel c fun ch => ch.endedSingle ps).postChannelHolder c .singleEnded
    else s.modChannel c fun ch => ch.countedOn ps
  | none => s

/-- The second case of R81: the pending commit executes. A lead with a staged set has been started by it; a lead without one
is treated by its mode (R100, R103). -/
def State.boundaryCommit (s : State) (l : LeaseId) (c : ChannelId) : State :=
  if s.slots[c].isSome && s.inLease l c then s.executeCommit l else (s.executeCommit l).boundaryPassed c

/-- The lapse of the channel's lease completes if this was its last PARKING channel (R60). -/
def State.completeForChannel (s : State) (c : ChannelId) : State :=
  match s.channels[c].lease with
  | some l => s.completeIfParked l
  | none => s

/-- The take of a period-end event whose hold still stands: the first case of R81 that applies. -/
def State.boundaryTaken (s : State) (c : ChannelId) : State :=
  if s.channels[c].state = .parking then (s.modChannel c fun ch => ch.parked).completeForChannel c
  else
    match s.leadPending c with
    | some l => s.boundaryCommit l c
    | none => s.boundaryPassed c

/-- The channel is still under the hold the event names (R81). -/
def Channel.underHold (ch : Channel) (serial : Nat) : Bool := ch.hold && ch.holdSerial == serial

/-- PERIOD_END_TAKE: the take of a period-end event of the channel. An event whose hold has ended has no effect (R81). -/
def execPeriodEndTake (channel : Nat) (s : State) : Answer :=
  onChannel channel fun c =>
    match s.duePeriodEnd c with
    | some n =>
      let t := s.dropDue (.periodEnd c n)
      if t.channels[c].underHold n then t.boundaryTaken c else t
    | none => s

end Sys2Proof.Machine
end

