-- ==== Sys2Proof/Machine/Device.lean ====
section
/-! DEFINITION. The device commands: DEVICE_RESET and TICK. -/

namespace Sys2Proof.Machine

/-- DEVICE_RESET: power-on or RESET_N low, ending with the given pin levels; every record takes its reset value and every
raised event is discarded (R1, R13, R44, R45, R68, R91, R112, R122, R143). Only the waiting commands stay. -/
def execDeviceReset (pins : Pins) (s : State) : Answer :=
  .next { State.afterReset pins with pending := s.pending }

/-- The expiry events of the deadlines equal to a tick, lowest lease first (R46). -/
def State.expiriesAt (s : State) (t : Tick) : List Event :=
  leaseIds.filterMap fun l =>
    match s.deadlines[l] with
    | some d => if d.tick = t then some (.expiry l d.kind) else none
    | none => none

/-- TICK: the end of a tick. Now advances by one modulo 2^32, and every deadline equal to the new value raises its own expiry
event; these arrive together (R44, R46). -/
def execTick (s : State) : Answer :=
  .next ({ s with now := s.now + 1 }.raise (s.expiriesAt (s.now + 1)))

end Sys2Proof.Machine
end

