-- ==== Sys2Proof/Machine/Expiry.lean ====
section
/-! DEFINITION. The takes of expiry events: TERM_EXPIRY and GRACE_EXPIRY. -/

namespace Sys2Proof.Machine

/-- The grace ticks of a lease; a lease with no definition has none. -/
def Lease.graceTicks (r : Lease) : Word16 := r.defn.elim 0 LeaseDef.grace

/-- The lease enters GRACE with a GRACE deadline, and GRACE is posted to the holder (R52). Holder, term and commit pending are
kept (R3). -/
def State.enterGrace (s : State) (l : LeaseId) : State :=
  ((s.modLease l fun r => { r with state := .grace }).setDeadline l
    (some { kind := .grace, tick := s.tickAfter s.leases[l].graceTicks })).postHolder l .grace

/-- A TERM expiry taken: GRACE where the lease has grace, else a lapse with reason EXPIRED (R52). -/
def State.termExpired (s : State) (l : LeaseId) : State :=
  if s.leases[l].graceTicks = 0 then s.lapse l .expired else s.enterGrace l

/-- TERM_EXPIRY: the take of a TERM expiry of the lease (R46, R52). -/
def execTermExpiry (lease : Nat) (s : State) : Answer :=
  onLease lease fun l => s.takeEvent (.expiry l .term) fun t => t.termExpired l

/-- GRACE_EXPIRY: the take of a GRACE expiry of the lease starts a lapse with reason EXPIRED (R46, R54). -/
def execGraceExpiry (lease : Nat) (s : State) : Answer :=
  onLease lease fun l => s.takeEvent (.expiry l .grace) fun t => t.lapse l .expired

end Sys2Proof.Machine
end

