-- ==== Sys2Proof/Machine/Halt.lean ====
section
/-! DEFINITION. The Halt Unit's commands: HALT_CHANGE, HALT_ASSERTION and HALT_RELEASE. -/

namespace Sys2Proof.Machine

/-- Raise a halt change event for the line if its sampled level differs from the taken one and none is waiting (R113). -/
def State.raiseHaltChange (s : State) (line : HaltLine) : State :=
  if s.haltSampled.get line != s.haltTaken.get line && !s.waitingEvent (fun e => e.isChangeOf line) then
    s.raise [.haltChange line (s.haltSampled.get line)]
  else s

/-- HALT_CHANGE: the line is sampled at a level (R113). -/
def execHaltChange (line : HaltLine) (asserted : Bool) (s : State) : Answer :=
  .next ({ s with haltSampled := s.haltSampled.put line asserted }.raiseHaltChange line)

/-- The channel's condition becomes true at the take that asserts the line: its group contains the line and its mark is clear
(R114). -/
def Channel.newlyHalted (ch : Channel) (line : HaltLine) : Bool := groupHas ch.haltGroup line && !ch.halted

/-- Some channel of the lease satisfies a condition. -/
def State.anyInLease (s : State) (l : LeaseId) (p : ChannelId → Bool) : Bool :=
  channelIds.any fun c => s.inLease l c && p c

/-- Mark and park the channels whose condition becomes true (R114). -/
def State.haltChannels (s : State) (line : HaltLine) : State :=
  s.mapChannels fun _ ch => if ch.newlyHalted line then { ch.parked with halted := true } else ch

/-- The park-complete events of the take, lease by lease: `before` is the state at its start. A lease one of whose PARKING
channels the take halted completes its lapse if no channel of it is PARKING now (R86, R115). -/
def State.haltCompletes (s before : State) (line : HaltLine) : State :=
  s.eachLease fun l t =>
    if before.anyInLease l fun c => before.channels[c].newlyHalted line && before.channels[c].state == .parking
    then t.completeIfParked l else t

/-- The lease-side effects of an assertion, judged by the state the lease had at the start of the take (R116). -/
def State.haltNotices (s before : State) (line : HaltLine) : State :=
  s.eachLease fun l t =>
    if before.leases[l].live && before.anyInLease l (fun c => before.channels[c].newlyHalted line) then
      if before.leases[l].commitPending then
        ((t.modLease l fun r => { r with commitPending := false }).postHolder l .commitCancelled).postHolder l .halted
      else t.postHolder l .halted
    else t

/-- The effect of a take that makes the line ASSERTED (R113 to R116), and the comparison that ends it (R113). -/
def State.haltAsserted (s : State) (line : HaltLine) : State :=
  let t := { s with haltTaken := s.haltTaken.put line true }
  (((t.haltChannels line).haltCompletes t line).haltNotices t line).raiseHaltChange line

/-- HALT_ASSERTION: the take of a halt change to ASSERTED (R114). -/
def execHaltAssertion (line : HaltLine) (s : State) : Answer :=
  .next (s.takeEvent (.haltChange line true) fun t => t.haltAsserted line)

/-- The channel's mark is set and its condition is false at the given levels (R117). -/
def Channel.newlyReleased (ch : Channel) (h : HaltLevels) : Bool := ch.halted && !haltCondition ch.haltGroup h

/-- Clear the marks whose condition is now false (R117). -/
def State.releaseChannels (s : State) : State :=
  s.mapChannels fun _ ch => if ch.newlyReleased s.haltTaken then { ch with halted := false } else ch

/-- HALT_CLEARED for each HELD or GRACE lease with a mark cleared and none left (R118). -/
def State.releaseNotices (s before : State) : State :=
  s.eachLease fun l t =>
    if t.leases[l].live && before.anyInLease l (fun c => before.channels[c].newlyReleased before.haltTaken) &&
        !t.anyHalted l
    then t.postHolder l .haltCleared else t

/-- The effect of a take that makes the line RELEASED (R117, R118), and the comparison that ends it (R113). -/
def State.haltReleased (s : State) (line : HaltLine) : State :=
  let t := { s with haltTaken := s.haltTaken.put line false }
  ((t.releaseChannels).releaseNotices t).raiseHaltChange line

/-- HALT_RELEASE: the take of a halt change to RELEASED (R117). -/
def execHaltRelease (line : HaltLine) (s : State) : Answer :=
  .next (s.takeEvent (.haltChange line false) fun t => t.haltReleased line)

end Sys2Proof.Machine
end

