-- ==== Sys2Proof/Machine/Lookups.lean ====
section
/-! DEFINITION. READ_NOTICES, the lookups QUERY_LEASE, QUERY_CHANNEL and QUERY_DEVICE, and UNKNOWN_REQUEST. -/

namespace Sys2Proof.Machine

/-! ### Notices -/

/-- The leases for which a notice set holds records, lowest first (R2, R146). -/
def noticeLeases (v : Vector (Option Notice) 16) : List LeaseId := leaseIds.filter fun l => v[l].isSome

/-- The leases whose records one READ_NOTICES returns: the lowest eight (R146). -/
def noticesReturned (v : Vector (Option Notice) 16) : List LeaseId := (noticeLeases v).take Config.noticesPerRead

/-- The six bytes of a notice record (R165). -/
def noticeBytes (l : LeaseId) (n : Notice) : List Byte :=
  [nibbleByte l] ++ wordBytes (n.kinds.setWidth 16) ++ wordBytes (n.grantEpoch.getD 0) ++ [reasonByte n.lastReason]

/-- What is left of a notice set when the returned records are removed (R146). -/
def noticesLeft (v : Vector (Option Notice) 16) : Vector (Option Notice) 16 :=
  Vector.ofFn fun l => if (noticesReturned v).contains l then none else v[l]

/-- The body of the answer to READ_NOTICES (R165). -/
def noticesBody (v : Vector (Option Notice) 16) : List Byte :=
  [countByte (noticesReturned v).length, countByte (noticeLeases (noticesLeft v)).length] ++
    (noticesReturned v).flatMap fun l => v[l].elim [] (noticeBytes l)

/-- READ_NOTICES: the records returned are removed within the take (R146, R147). -/
def execReadNotices (s : State) : Answer :=
  .next (s.takeRequest .readNotices fun p _ =>
    .accept .ok (noticesBody s.notices[p]) (s.setNotices p (noticesLeft s.notices[p])))

/-! ### QUERY_LEASE -/

/-- The ticks remaining until a deadline: deadline minus now modulo 2^32, or 0 where it has been reached and its expiry has not
yet been taken (R47, R153). -/
def State.ticksRemaining (s : State) (l : LeaseId) : Word16 :=
  match s.deadlines[l] with
  | some d => if s.waitingEvent (fun e => e.isExpiryOf l) then 0 else (d.tick - s.now).setWidth 16
  | none => 0

/-- Bytes 10 to 18: term min, term max, grace, channel set and lead; 0 in UNDEFINED (R166). -/
def definitionBytes (d : Option LeaseDef) : List Byte :=
  match d with
  | some x =>
    wordBytes x.termMin ++ wordBytes x.termMax ++ wordBytes x.grace ++ wordBytes x.channels ++ [nibbleByte x.lead]
  | none => List.replicate 9 0

/-- One queue slot: an entry, or port 0xFF and term 0 (R166). -/
def queueSlotBytes (w : Option Waiter) : List Byte :=
  match w with
  | some x => portByte x.port :: wordBytes x.term
  | none => [0xFF, 0, 0]

/-- The flags byte: departing, commit pending, definition present (R166). -/
def Lease.flagsByte (r : Lease) : Byte :=
  (if r.departing then 1 else 0) ||| (if r.commitPending then 2 else 0) ||| (if r.defn.isSome then 4 else 0)

/-- The 33 bytes that answer QUERY_LEASE (R153, R166). -/
def State.leaseBody (s : State) (l : LeaseId) : List Byte :=
  let r := s.leases[l]
  [r.state.byte, holderByte r.holder, r.flagsByte] ++ wordBytes r.epoch ++
    [s.deadlines[l].elim 0 fun d => d.kind.byte] ++ wordBytes (s.ticksRemaining l) ++ wordBytes (r.term.getD 0) ++
    definitionBytes r.defn ++ [reasonByte r.reason, countByte r.queue.length] ++
    queueSlotBytes r.queue[0]? ++ queueSlotBytes r.queue[1]? ++ queueSlotBytes r.queue[2]? ++ queueSlotBytes r.queue[3]?

/-- QUERY_LEASE: the lease as it stands at the take; an UNDEFINED one is answered too (R21, R152, R153). -/
def execQueryLease (s : State) : Answer :=
  .next (s.takeRequest .queryLease fun _ q =>
    match q with
    | .queryLease l => .accept .ok (s.leaseBody l) s
    | _ => .refuse .badField)

/-! ### QUERY_CHANNEL -/

/-- Bytes 6 to 15: whether an active set is present, and its nine bytes or zeros (R167). -/
def activeBytes (a : Option ParamSet) : List Byte :=
  match a with
  | some ps => 1 :: ps.bytes
  | none => List.replicate 10 0

/-- Bytes 16 to 18: whether a staged set is present, and its tag or 0 (R155, R167). -/
def stagedBytes (x : Option StagedSet) : List Byte :=
  match x with
  | some st => 1 :: wordBytes st.tag
  | none => [0, 0, 0]

/-- The 22 bytes that answer QUERY_CHANNEL (R90, R155, R167). -/
def State.channelBody (s : State) (c : ChannelId) : List Byte :=
  let ch := s.channels[c]
  [ch.state.byte, ch.lease.elim 0xFF nibbleByte, ch.parkAction.byte, ch.parkTiming.byte, ch.haltGroup.byte,
    flagByte ch.halted] ++ activeBytes ch.active ++ stagedBytes s.slots[c] ++ wordBytes ch.counter ++ [ch.direction.byte]

/-- QUERY_CHANNEL: the channel as it stands at the take (R152, R155). -/
def execQueryChannel (s : State) : Answer :=
  .next (s.takeRequest .queryChannel fun _ q =>
    match q with
    | .queryChannel c => .accept .ok (s.channelBody c) s
    | _ => .refuse .badField)

/-! ### QUERY_DEVICE -/

/-- The set of defined leases, bit n for Ln (R157, R167). -/
def State.definedSet (s : State) : Word16 :=
  leaseIds.foldl (fun w l => if s.leases[l].state = .undefined then w else w ||| BitVec.twoPow 16 l.val) 0

/-- The 15 bytes that answer QUERY_DEVICE (R157, R167). -/
def State.deviceBody (s : State) : List Byte :=
  wordBytes Config.partCode ++ [Config.revision] ++ tickBytes s.now ++
    [s.ports[(0 : Port)].presence.byte, s.ports[(1 : Port)].presence.byte, s.ports[(2 : Port)].presence.byte,
     s.ports[(3 : Port)].presence.byte, flagByte s.haltTaken.h0, flagByte s.haltTaken.h1] ++ wordBytes s.definedSet

/-- QUERY_DEVICE: the device as it stands at the take (R152, R157). -/
def execQueryDevice (s : State) : Answer :=
  .next (s.takeRequest .queryDevice fun _ _ => .accept .ok s.deviceBody s)

/-! ### UNKNOWN_REQUEST -/

/-- UNKNOWN_REQUEST: the arbiter's next request has a code that names none of the nineteen, and is answered so before any other
check (R21, R160). -/
def execUnknownRequest (s : State) : Answer :=
  .next (match s.nextRequest with
    | some (p, r) => if ReqCode.ofByte r.code = none then s.answer p r.tag (.refuse .unknownRequest) else s
    | none => s)

end Sys2Proof.Machine
end

