-- ==== Sys2Proof/Machine/Outputs.lean ====
section
/-! DEFINITION. The requests by which a holder moves its channels: STAGE, DISCARD, COMMIT, RESUME and PARK. -/

namespace Sys2Proof.Machine

/-- The channel check and the commit-pending check of STAGE and DISCARD (R93, R95). -/
def State.slotChecks (s : State) (l : LeaseId) (c : ChannelId) : List (Bool × Status) :=
  [(!s.inLease l c, .badField), (s.leases[l].commitPending, .commitPending)]

/-- The judgement of a STAGE: the set and the current epoch are written into the slot (R93, R94). -/
def State.judgeStage (s : State) (p : Port) (l : LeaseId) (epoch : Word16) (c : ChannelId) (ps : ParamSet) : Judgement :=
  checked (s.holderChecks p l epoch false ++ s.slotChecks l c)
    (.accept .ok [flagByte s.slots[c].isSome] (s.setSlot c (some { params := ps, tag := s.leases[l].epoch })))

/-- STAGE (R93, R94). -/
def execStage (s : State) : Answer :=
  .next (s.takeRequest .stage fun p q =>
    match q with
    | .stage l e c ps => s.judgeStage p l e c ps
    | _ => .refuse .badField)

/-- The judgement of a DISCARD: the slot is emptied (R95). -/
def State.judgeDiscard (s : State) (p : Port) (l : LeaseId) (epoch : Word16) (c : ChannelId) : Judgement :=
  checked (s.holderChecks p l epoch true ++ s.slotChecks l c)
    (.accept .ok [flagByte s.slots[c].isSome] (s.setSlot c none))

/-- DISCARD (R95). -/
def execDiscard (s : State) : Answer :=
  .next (s.takeRequest .discard fun p q =>
    match q with
    | .discard l e c => s.judgeDiscard p l e c
    | _ => .refuse .badField)

/-- The lead channel of the lease is RUNNING (R97). -/
def State.leadRunning (s : State) (l : LeaseId) : Bool :=
  channelIds.any fun c => s.leases[l].hasLead c && s.channels[c].state == .running

/-- An accepted COMMIT: pending where the lead is RUNNING, else executed at once (R97). -/
def State.committed (s : State) (l : LeaseId) : State :=
  if s.leadRunning l then s.modLease l fun r => { r with commitPending := true } else s.executeCommit l

/-- The judgement of a COMMIT (R96, R97, R164). -/
def State.judgeCommit (s : State) (p : Port) (l : LeaseId) (epoch : Word16) : Judgement :=
  checked
    (s.holderChecks p l epoch false ++
      [(s.leases[l].commitPending, .commitPending), (s.countStaged l == 0, .nothingStaged), (s.anyHalted l, .halted)])
    (.accept .ok [flagByte (s.leadRunning l), countByte (s.countStaged l)] (s.committed l))

/-- COMMIT (R96, R97). -/
def execCommit (s : State) : Answer :=
  .next (s.takeRequest .commit fun p q =>
    match q with
    | .commit l e => s.judgeCommit p l e
    | _ => .refuse .badField)

/-- RESUME would start the channel: it is PARKED or ENDED and has an active set (R108, R109). -/
def Channel.resumable (ch : Channel) : Bool := (ch.state == .parked || ch.state == .ended) && ch.active.isSome

/-- An accepted RESUME: every channel it would start starts on its active set, all at one instant (R75, R109). -/
def State.resumed (s : State) (l : LeaseId) : State :=
  s.mapChannels fun c ch =>
    match (if s.inLease l c && ch.resumable then ch.active else none) with
    | some ps => ch.started ps
    | none => ch

/-- The judgement of a RESUME (R108, R109). -/
def State.judgeResume (s : State) (p : Port) (l : LeaseId) (epoch : Word16) : Judgement :=
  checked
    (s.holderChecks p l epoch false ++
      [(s.leases[l].commitPending, .commitPending),
       (channelIds.any fun c => s.inLease l c && s.channels[c].resumable && s.channels[c].halted, .halted)])
    (.accept .ok [countByte (countChannels fun c => s.inLease l c && s.channels[c].resumable)] (s.resumed l))

/-- RESUME (R108, R109). -/
def execResume (s : State) : Answer :=
  .next (s.takeRequest .resume fun p q =>
    match q with
    | .resume l e => s.judgeResume p l e
    | _ => .refuse .badField)

/-- Park at once every channel of a set (R111). -/
def State.parkSet (s : State) (set : ChannelSet) : State :=
  s.mapChannels fun c ch => if set.getLsbD c then ch.parked else ch

/-- The lead of the lease is listed, and the lease has a pending commit (R102, R111). -/
def State.parkCommits (s : State) (l : LeaseId) (set : ChannelSet) : Bool :=
  s.leases[l].commitPending && channelIds.any fun c => set.getLsbD c && s.leases[l].hasLead c

/-- An accepted PARK: the listed channels park, and a pending commit executes if the lead is listed (R102, R111). -/
def State.parkListed (s : State) (l : LeaseId) (set : ChannelSet) : State :=
  if s.parkCommits l set then (s.parkSet set).executeCommit l else s.parkSet set

/-- The judgement of a PARK (R110, R111). -/
def State.judgePark (s : State) (p : Port) (l : LeaseId) (epoch : Word16) (set : ChannelSet) : Judgement :=
  checked
    (s.holderChecks p l epoch true ++ [(set &&& ~~~ s.leases[l].channelSet != 0, .badField)])
    (.accept .ok
      [countByte (countChannels fun c => set.getLsbD c && s.channels[c].state != .parked), flagByte (s.parkCommits l set)]
      (s.parkListed l set))

/-- PARK (R110, R111). -/
def execPark (s : State) : Answer :=
  .next (s.takeRequest .park fun p q =>
    match q with
    | .park l e set => s.judgePark p l e set
    | _ => .refuse .badField)

end Sys2Proof.Machine
end

