-- ==== Sys2Proof/Machine/Presence.lean ====
section
/-! DEFINITION. Presence, departure and return: PRESENT_FALL, DEPARTURE and RETURN. -/

namespace Sys2Proof.Machine

/-- The port record when a PRESENT port's line is sampled low: LEAVING, slots emptied, any transaction abandoned (R135). -/
def PortRecord.left (pr : PortRecord) : PortRecord :=
  { pr with presence := .leaving, request := none, response := .empty, transaction := none, line := false }

/-- PRESENT_FALL: PRESENTn is sampled low. A PRESENT port becomes LEAVING and raises a departure event; a port in any other
state only has the new level noted (R135, R138). -/
def execPresentFall (port : Nat) (s : State) : Answer :=
  onPort port fun p =>
    match s.ports[p].presence with
    | .present => (s.modPort p PortRecord.left).raise [.departure p]
    | .leaving => s.modPort p fun pr => { pr with line := false }
    | .absent => s.modPort p fun pr => { pr with line := false }

/-- What a departure does to one lease: the port's entry leaves the queue (R42), and a lease it holds lapses DEPARTED (R66). -/
def State.departLease (s : State) (p : Port) (l : LeaseId) : State :=
  let t := s.modLease l fun r => { r with queue := r.queueWithout p }
  if t.leases[l].heldBy p then t.lapse l .departed else t

/-- The end of the departure take: the notice set is emptied and ATTN released, and the port is ABSENT, or PRESENT where its
line has risen meanwhile (R136, R138, R151). -/
def State.departPort (s : State) (p : Port) : State :=
  (s.setNotices p (Vector.replicate 16 none)).modPort p fun pr =>
    { pr with presence := if pr.line then .present else .absent }

/-- DEPARTURE: the take of the port's departure event (R66, R136). -/
def execDeparture (port : Nat) (s : State) : Answer :=
  onPort port fun p => s.takeEvent (.departure p) fun t => (t.eachLease fun l u => u.departLease p l).departPort p

/-- RETURN: PRESENTn is sampled high. An ABSENT port becomes PRESENT with empty slots and raises nothing; a port in any other
state only has the new level noted (R138). -/
def execPortReturn (port : Nat) (s : State) : Answer :=
  onPort port fun p =>
    s.modPort p fun pr =>
      match pr.presence with
      | .absent => { pr with presence := .present, request := none, response := .empty, transaction := none, line := true }
      | .leaving => { pr with line := true }
      | .present => { pr with line := true }

end Sys2Proof.Machine
end

