-- ==== Sys2Proof/Machine/Supervisor.lean ====
section
/-! DEFINITION. The supervisor requests: DEFINE, UNDEFINE, CONFIGURE_CHANNEL, REVOKE and RESET_LEASES. -/

namespace Sys2Proof.Machine

/-- Some channel of the set is a member of the channel set of a defined lease (R17, step 5). -/
def State.channelTaken (s : State) (set : ChannelSet) : Bool :=
  leaseIds.any fun l => s.leases[l].channelSet &&& set != 0

/-- Write the lease field of every channel of a set (R69). -/
def State.tieChannels (s : State) (set : ChannelSet) (l : Option LeaseId) : State :=
  s.mapChannels fun c ch => if set.getLsbD c then { ch with lease := l } else ch

/-- An accepted DEFINE: the lease is VACANT under the definition, its epoch kept (R18). -/
def State.defined (s : State) (l : LeaseId) (d : LeaseDef) : State :=
  ((s.modLease l fun r =>
      { r with state := .vacant, defn := some d, holder := none, departing := false, term := none, queue := [],
               commitPending := false, reason := none }).setDeadline l none).tieChannels d.channels (some l)

/-- The judgement of a DEFINE (R17, R18). -/
def State.judgeDefine (s : State) (p : Port) (l : LeaseId) (d : LeaseDef) : Judgement :=
  checked
    [supervisorCheck p,
     (s.leases[l].state != .undefined, .alreadyDefined),
     (s.channelTaken d.channels, .channelTaken)]
    (.accept .ok (wordBytes s.leases[l].epoch) (s.defined l d))

/-- DEFINE (R17, R18). -/
def execDefine (s : State) : Answer :=
  .next (s.takeRequest .define fun p q =>
    match q with
    | .define l d => s.judgeDefine p l d
    | _ => .refuse .badField)

/-- An accepted UNDEFINE: the definition is absent, the epoch kept, and the channels are in no lease (R19). -/
def State.undefined (s : State) (l : LeaseId) : State :=
  (s.tieChannels s.leases[l].channelSet none).modLease l fun r => { r with state := .undefined, defn := none }

/-- The judgement of an UNDEFINE (R19). -/
def State.judgeUndefine (s : State) (p : Port) (l : LeaseId) : Judgement :=
  checked
    [supervisorCheck p, s.definedCheck l, (s.leases[l].state != .vacant, .busy)]
    (.accept .ok [] (s.undefined l))

/-- UNDEFINE (R19). -/
def execUndefine (s : State) : Answer :=
  .next (s.takeRequest .undefine fun p q =>
    match q with
    | .undefine l => s.judgeUndefine p l
    | _ => .refuse .badField)

/-- The channel record after an accepted CONFIGURE_CHANNEL: the pin goes to the new park level, and the mark matches the new
group at the taken levels (R89, R120). -/
def Channel.configured (ch : Channel) (h : HaltLevels) (a : ParkAction) (t : ParkTiming) (g : HaltGroup) : Channel :=
  { ch with parkAction := a, parkTiming := t, haltGroup := g, halted := haltCondition g h, level := parkLevel a ch.level }

/-- The channel's lease is in HELD, GRACE or LAPSING (R88, step 4). -/
def State.channelBusy (s : State) (c : ChannelId) : Bool :=
  match s.channels[c].lease with
  | some l => s.leases[l].live || s.leases[l].state == .lapsing
  | none => false

/-- The judgement of a CONFIGURE_CHANNEL (R88, R89). -/
def State.judgeConfigure (s : State) (p : Port) (c : ChannelId) (a : ParkAction) (t : ParkTiming) (g : HaltGroup) :
    Judgement :=
  checked
    [supervisorCheck p, (s.channelBusy c, .busy)]
    (.accept .ok [] (s.modChannel c fun ch => ch.configured s.haltTaken a t g))

/-- CONFIGURE_CHANNEL (R88, R89). -/
def execConfigureChannel (s : State) : Answer :=
  .next (s.takeRequest .configureChannel fun p q =>
    match q with
    | .configureChannel c a t g => s.judgeConfigure p c a t g
    | _ => .refuse .badField)

/-- An accepted REVOKE: a REVOKED lapse of a HELD or GRACE lease; a LAPSING one is cut short by parking its PARKING channels
(R63, R64). -/
def State.revoked (s : State) (l : LeaseId) : State :=
  if s.leases[l].live then s.lapse l .revoked else (s.parkLease l).completeIfParked l

/-- The body of the answer to REVOKE: the lease as the request left it (R164). -/
def State.revokeBody (s : State) (l : LeaseId) : List Byte :=
  [s.leases[l].state.byte, holderByte s.leases[l].holder] ++ wordBytes s.leases[l].epoch

/-- The judgement of a REVOKE (R63, R64). -/
def State.judgeRevoke (s : State) (p : Port) (l : LeaseId) : Judgement :=
  checked
    [supervisorCheck p, s.definedCheck l, (s.leases[l].state == .vacant, .notHeld)]
    (.accept .ok ((s.revoked l).revokeBody l) (s.revoked l))

/-- REVOKE (R63, R64). -/
def execRevoke (s : State) : Answer :=
  .next (s.takeRequest .revoke fun p q =>
    match q with
    | .revoke l => s.judgeRevoke p l
    | _ => .refuse .badField)

/-- Post WAIT_CANCELLED to each port in a queue (R65, step 5). -/
def State.cancelWaits (s : State) (l : LeaseId) (queue : List Waiter) : State :=
  queue.foldl (fun t w => t.post w.port l .waitCancelled) s

/-- What RESET_LEASES does to one lease (R65); an UNDEFINED one is untouched. -/
def State.resetLease (s : State) (l : LeaseId) : State :=
  if s.leases[l].state = .undefined then s
  else
    let t := (s.parkLease l).purge l
    let u := if s.leases[l].live then t.postHolder l (.lapsed .reset) else t
    ((u.cancelWaits l s.leases[l].queue).setDeadline l none).modLease l fun r =>
      { r with state := .vacant, holder := none, departing := false, term := none, queue := [], commitPending := false,
               reason := none }

/-- The number of defined leases (R65, R164). -/
def State.countDefined (s : State) : Nat := (leaseIds.filter fun l => s.leases[l].state != .undefined).length

/-- RESET_LEASES (R65). -/
def execResetLeases (s : State) : Answer :=
  .next (s.takeRequest .resetLeases fun p _ =>
    checked [supervisorCheck p]
      (.accept .ok [countByte s.countDefined] (s.eachLease fun l t => t.resetLease l)))

end Sys2Proof.Machine
end

