-- ==== Sys2Proof/Machine/Transactions.lean ====
section
/-! DEFINITION. The ends of an SPI transaction: CS_FALL and CS_RISE. -/

namespace Sys2Proof.Machine

/-- CS_FALL: CSn_N falls. A PRESENT port begins a transaction and fixes its outward frame; a port in any other state ignores the
fall (R124, R125). Where CSn_N is low already there is no fall (log 2). -/
def execCsFall (port : Nat) (s : State) : Answer :=
  onPort port fun p =>
    s.modPort p fun pr =>
      if pr.selected then pr
      else
        match pr.presence with
        | .present =>
          { pr with selected := true,
                    transaction := some { outward := pr.outwardFrame, carriesAnswer := pr.response.isReady } }
        | .leaving => { pr with selected := true }
        | .absent => { pr with selected := true }

/-- The response slot after the delivery of R127: a READY response whose whole frame was clocked is gone. -/
def ResponseSlot.afterDelivery (slot : ResponseSlot) (t : Transaction) (clocked : Nat) : ResponseSlot :=
  if t.carriesAnswer && t.outward.length ≤ clocked then .empty else slot

/-- Placing, FRAME_ERROR or discard, by what came in and whether the slot is EMPTY (R129, R130). -/
def PortRecord.received (pr : PortRecord) (i : Inward) : PortRecord :=
  match pr.response, i with
  | .empty, .valid r => { pr with request := some r, response := .waiting }
  | .empty, .invalid tag => { pr with response := .ready { status := .frameError, tag := tag, body := [] } }
  | .empty, .nop => pr
  | .waiting, _ => pr
  | .ready _, _ => pr

/-- The work at CS rise: delivery, then the inward frame (R127 to R130). -/
def PortRecord.transacted (pr : PortRecord) (t : Transaction) (mosi : List Bool) : PortRecord :=
  let bytes := bytesOf mosi
  { pr with transaction := none, selected := false, miso := shiftedBits t.outward mosi.length,
            response := pr.response.afterDelivery t bytes.length }.received (readInward bytes)

/-- CS_RISE: CSn_N rises after the bits of `mosi` were sampled. A PRESENT port in a transaction does the work of R127 to R130;
an abandoned transaction ends with no work (R122, R135). Where CSn_N is high already there is no rise (log 2). -/
def execCsRise (port : Nat) (mosi : List Bool) (s : State) : Answer :=
  onPort port fun p =>
    s.modPort p fun pr =>
      if pr.selected then
        match pr.presence, pr.transaction with
        | .present, some t => pr.transacted t mosi
        | .present, none => { pr with selected := false }
        | .leaving, _ => { pr with selected := false, transaction := none }
        | .absent, _ => { pr with selected := false, transaction := none }
      else pr

end Sys2Proof.Machine
end

