-- ==== Sys2Proof/Machine/Dispatch.lean ====
section
/-! DEFINITION. The dispatch: one arm per command, each a direct call of its meaning. -/

namespace Sys2Proof.Machine

def exec (i : Instr) (s : State) : Host.Outcome State Fault Refusal :=
  match i with
  | .deviceReset pins => Sys2Proof.Machine.execDeviceReset pins s
  | .tick => Sys2Proof.Machine.execTick s
  | .termExpiry lease => Sys2Proof.Machine.execTermExpiry lease s
  | .graceExpiry lease => Sys2Proof.Machine.execGraceExpiry lease s
  | .periodEnd channel => Sys2Proof.Machine.execPeriodEnd channel s
  | .periodEndTake channel => Sys2Proof.Machine.execPeriodEndTake channel s
  | .haltChange line asserted => Sys2Proof.Machine.execHaltChange line asserted s
  | .haltAssertion line => Sys2Proof.Machine.execHaltAssertion line s
  | .haltRelease line => Sys2Proof.Machine.execHaltRelease line s
  | .presentFall port => Sys2Proof.Machine.execPresentFall port s
  | .departure port => Sys2Proof.Machine.execDeparture port s
  | .portReturn port => Sys2Proof.Machine.execPortReturn port s
  | .csFall port => Sys2Proof.Machine.execCsFall port s
  | .csRise port mosi => Sys2Proof.Machine.execCsRise port mosi s
  | .define => Sys2Proof.Machine.execDefine s
  | .undefine => Sys2Proof.Machine.execUndefine s
  | .configureChannel => Sys2Proof.Machine.execConfigureChannel s
  | .revoke => Sys2Proof.Machine.execRevoke s
  | .resetLeases => Sys2Proof.Machine.execResetLeases s
  | .acquire => Sys2Proof.Machine.execAcquire s
  | .withdraw => Sys2Proof.Machine.execWithdraw s
  | .renew => Sys2Proof.Machine.execRenew s
  | .transfer => Sys2Proof.Machine.execTransfer s
  | .release => Sys2Proof.Machine.execRelease s
  | .stage => Sys2Proof.Machine.execStage s
  | .discard => Sys2Proof.Machine.execDiscard s
  | .commit => Sys2Proof.Machine.execCommit s
  | .resume => Sys2Proof.Machine.execResume s
  | .park => Sys2Proof.Machine.execPark s
  | .readNotices => Sys2Proof.Machine.execReadNotices s
  | .queryLease => Sys2Proof.Machine.execQueryLease s
  | .queryChannel => Sys2Proof.Machine.execQueryChannel s
  | .queryDevice => Sys2Proof.Machine.execQueryDevice s
  | .unknownRequest => Sys2Proof.Machine.execUnknownRequest s
  | .count channel => Sys2Proof.Machine.execCount channel s

end Sys2Proof.Machine
end

