-- ==== Sys2Proof/Machine/Step.lean ====
section
/-! DEFINITION. One step: the command at the front of the queue is taken off it and executed. -/

namespace Sys2Proof.Machine

/-- One step takes the front command and executes it with the queue's rest. On an empty queue the part idles (DESIGN CHOICE,
safe, log 9): ticks and counts are commands of the table. -/
def step (s : State) : Host.Outcome State Fault Refusal :=
  match s.pending with
  | [] => .next s
  | c :: rest => exec c { s with pending := rest }

/-- The state with the command a word spells put at the front of its queue; no word spells one (R21 codes are bytes of frames,
not words of the table). -/
def State.withFetchWord (s : State) (nbits w : Nat) : State :=
  match decodeTableWord nbits w with
  | some i => { s with pending := i :: s.pending }
  | none => s

end Sys2Proof.Machine
end

