-- ==== Sys2Proof/Safety.lean ====
section
/-! DEFINITION. The laws the spec says the part keeps, each as a decidable predicate on the state, and their conjunction
`Lawful`. A run of the part stays lawful; claims that need a law name it. -/

namespace Sys2Proof.Machine

/-! ### The lease table -/

/-- Which fields of a lease record are present in its state (section 1.2, R3, R153). -/
abbrev Lease.presenceLaw (r : Lease) : Prop :=
  (r.defn = none ↔ r.state = .undefined) ∧
    (r.state = .undefined ∨ r.state = .vacant →
      r.holder = none ∧ r.term = none ∧ r.queue = [] ∧ r.commitPending = false) ∧
    (r.live = true → r.holder.isSome = true ∧ r.term.isSome = true) ∧
    (r.state = .lapsing →
      r.holder.isSome = true ∧ r.term = none ∧ r.commitPending = false ∧ r.reason.isSome = true ∧ r.reason ≠ some .reset) ∧
    (r.departing = true ↔ r.state = .lapsing) ∧ (r.state ≠ .lapsing → r.reason = none)

/-- The values of a lease record: its definition and its terms lie in their bounds, and its epoch is not 0 once it has been
granted (R5, R14, R17, R24). -/
abbrev Lease.valueLaw (r : Lease) : Prop :=
  r.defn.all LeaseDef.inRange = true ∧ r.term.all r.termWithin = true ∧
    (∀ w ∈ r.queue, r.termWithin w.term = true) ∧ (r.live = true ∨ r.state = .lapsing → r.epoch ≠ 0)

/-- At most one entry per port, and none for the holder of a HELD or GRACE lease (R25). -/
abbrev Lease.queueLaw (r : Lease) : Prop :=
  (r.queue.map Waiter.port).Nodup ∧ ∀ p : Port, r.heldBy p = true → r.entryOf p = none

/-- The lease records agree with their states (R3, R5, R14, R25). -/
abbrev State.recordLaw (s : State) : Prop :=
  ∀ l : LeaseId, s.leases[l].presenceLaw ∧ s.leases[l].valueLaw ∧ s.leases[l].queueLaw

/-- A channel's lease field names the lease whose channel set contains it; so no channel is in two leases (R4, R69). -/
abbrev State.tieLaw (s : State) : Prop :=
  ∀ l : LeaseId, ∀ c : ChannelId, s.channels[c].lease = some l ↔ s.inLease l c = true

/-! ### Deadlines -/

/-- The kind of deadline a lease state has (R48). -/
def LeaseState.deadlineKind : LeaseState → Option DeadlineKind
  | .undefined => none
  | .vacant => none
  | .held => some .term
  | .grace => some .grace
  | .lapsing => none

/-- The most ticks a deadline may lie ahead: term max in HELD, grace in GRACE (R48). -/
def Lease.longestAhead (r : Lease) : Word16 :=
  match r.state, r.defn with
  | .held, some d => d.termMax
  | .grace, some d => d.grace
  | _, _ => 0

/-- An expiry of the lease has been raised and not yet taken. -/
def State.expiryWaits (s : State) (l : LeaseId) : Bool := s.waitingEvent fun e => e.isExpiryOf l

/-- The deadline law: HELD has a TERM deadline, GRACE a GRACE deadline, every other state none; and until its expiry is raised
a deadline lies at least one tick and at most term max or grace ahead (R46, R48). -/
abbrev State.deadlineLaw (s : State) : Prop :=
  ∀ l : LeaseId,
    s.deadlines[l].map Deadline.kind = s.leases[l].state.deadlineKind ∧
      ∀ d ∈ s.deadlines[l], s.expiryWaits l = false →
        1#32 ≤ d.tick - s.now ∧ d.tick - s.now ≤ s.leases[l].longestAhead.setWidth 32

/-! ### Channels -/

/-- The law of parking channels: PARKING only in a LAPSING lease, and a LAPSING lease has a PARKING channel (R58). -/
abbrev State.parkingLaw (s : State) : Prop :=
  (∀ c : ChannelId, s.channels[c].state = .parking →
      ∃ l : LeaseId, s.channels[c].lease = some l ∧ s.leases[l].state = .lapsing) ∧
    ∀ l : LeaseId, s.leases[l].state = .lapsing → s.anyParking l = true

/-- The law of channels outside live leases: a channel that is RUNNING or ENDED belongs to a lease in HELD or GRACE; so, with
the law of parking channels, a channel of no lease or of a VACANT one is PARKED (R82, R87). -/
abbrev State.outsideLaw (s : State) : Prop :=
  ∀ c : ChannelId, s.channels[c].state = .running ∨ s.channels[c].state = .ended →
    ∃ l : LeaseId, s.channels[c].lease = some l ∧ s.leases[l].live = true

/-- Where the counter of a counting channel may stand (R76, R77, R78). -/
def Channel.inPeriod (ch : Channel) (ps : ParamSet) : Bool :=
  match ps.mode, ch.direction with
  | .centre, .up => ch.counter ≤ ps.period
  | .centre, .down => 1#16 ≤ ch.counter && ch.counter < ps.period
  | _, .up => ch.counter < ps.period
  | _, .down => false

/-- What a channel's counter, hold and pin show in its state: a counting channel drives the level of its count, a held one
stands at 0, UP and drives its held level, an ENDED one its inactive level, and a PARKED one its park level; a channel that is
not PARKED has an active set (R70, R76 to R84, R90, R155). -/
abbrev Channel.outputLaw (ch : Channel) : Prop :=
  (ch.state = .parked → ch.hold = false ∧ parkLevel ch.parkAction ch.level = ch.level) ∧
    (ch.state ≠ .parked → ch.active.isSome = true) ∧
    ∀ ps ∈ ch.active,
      (ch.state = .ended →
        ps.mode = .single ∧ ch.hold = false ∧ ch.counter = 0 ∧ ch.direction = .up ∧ ch.level = inactiveLevel ps) ∧
      (ch.hold = true → ch.counter = 0 ∧ ch.direction = .up ∧ ch.level = holdLevel ps) ∧
      (ch.counting = true → ch.inPeriod ps = true ∧ ch.level = countLevel ps ch.counter)

/-- Every channel's outputs follow its state, and every active set is valid (R72). -/
abbrev State.channelLaw (s : State) : Prop :=
  ∀ c : ChannelId, s.channels[c].outputLaw ∧ ∀ ps ∈ s.channels[c].active, ps.valid = true

/-- The period-end event of a hold is waiting. -/
def State.holdWaits (s : State) (c : ChannelId) (n : Nat) : Bool := s.waitingEvent fun e => e == .periodEnd c n

/-- An event does not name a hold that its channel has not begun (R80). -/
def State.holdBegun (s : State) (e : Event) : Bool :=
  match e with
  | .periodEnd c n => n ≤ s.channels[c].holdSerial
  | _ => true

/-- A boundary hold that stands has its period-end event waiting, and no event names a hold that has not begun (R80). -/
abbrev State.holdLaw (s : State) : Prop :=
  (∀ c : ChannelId, s.channels[c].hold = true → s.holdWaits c s.channels[c].holdSerial = true) ∧
    ∀ b ∈ s.events, ∀ e ∈ b, s.holdBegun e = true

/-! ### Staging, commits and halts -/

/-- The staging law: a slot holds a staged set only while its channel's lease is HELD or GRACE, under that lease's current
epoch (R92); the set is valid (R91). -/
abbrev State.stagingLaw (s : State) : Prop :=
  ∀ c : ChannelId, ∀ x ∈ s.slots[c], x.params.valid = true ∧
    ∃ l : LeaseId, s.channels[c].lease = some l ∧ s.leases[l].live = true ∧ x.tag = s.leases[l].epoch

/-- The pending-commit law (R98). -/
abbrev State.pendingLaw (s : State) : Prop :=
  ∀ l : LeaseId, s.leases[l].commitPending = true →
    s.leases[l].live = true ∧ s.anyHalted l = false ∧ s.leadRunning l = true ∧ s.countStaged l ≠ 0

/-- The halt law: a channel is marked exactly while its halt condition holds at the taken levels, and a marked channel is
PARKED (R112, R119). -/
abbrev State.haltLaw (s : State) : Prop :=
  ∀ c : ChannelId, s.channels[c].halted = haltCondition s.channels[c].haltGroup s.haltTaken ∧
    (s.channels[c].halted = true → s.channels[c].state = .parked)

/-! ### Events -/

/-- How many events waiting satisfy a condition. -/
def State.countEvents (s : State) (p : Event → Bool) : Nat := (s.events.flatten.filter p).length

/-- The state an event's taker counts on: an expiry finds its deadline (R46), a halt change a taken level that differs (R113), a
departure its LEAVING port (R135). -/
def State.eventStands (s : State) (e : Event) : Bool :=
  match e with
  | .expiry l k => s.deadlines[l].map Deadline.kind == some k
  | .periodEnd _ _ => true
  | .haltChange line a => a != s.haltTaken.get line
  | .departure p => s.ports[p].presence == .leaving

/-- Every raised event finds the state its taker counts on, and no arrival is empty; a line has at most one halt change waiting,
and none only where its sampled level is the taken one (R113); a port has one departure waiting exactly while it is LEAVING
(R135). -/
abbrev State.eventLaw (s : State) : Prop :=
  (∀ b ∈ s.events, b ≠ [] ∧ ∀ e ∈ b, s.eventStands e = true) ∧
    (∀ line ∈ [HaltLine.h0, HaltLine.h1],
      s.countEvents (fun e => e.isChangeOf line) ≤ 1 ∧
        (s.countEvents (fun e => e.isChangeOf line) = 0 → s.haltSampled.get line = s.haltTaken.get line)) ∧
    ∀ p : Port, s.countEvents (fun e => e == .departure p) = if s.ports[p].presence = .leaving then 1 else 0

/-! ### Ports and notices -/

/-- The body of a stored response is at most 60 bytes long (R131). -/
def ResponseSlot.bodyFits : ResponseSlot → Bool
  | .ready a => a.body.length ≤ Config.maxBody
  | _ => true

/-- A port's slots: a request is in its slot exactly while the response slot is WAITING (R123); a placed request has a code other
than 0 and a body of at most 60 bytes (R126, R128), and so has a stored response (R131); a port that is LEAVING or ABSENT has
empty slots and no transaction (R135, R137); a transaction stands only while CSn_N is low (R124); a PRESENT port's line was last
sampled high and an ABSENT port's low (R135, R138). -/
abbrev PortRecord.slotLaw (pr : PortRecord) : Prop :=
  (pr.request.isSome = true ↔ pr.response = .waiting) ∧
    (∀ r ∈ pr.request, r.code ≠ 0 ∧ r.body.length ≤ Config.maxBody) ∧
    pr.response.bodyFits = true ∧
    (pr.presence ≠ .present → pr.request = none ∧ pr.response = .empty ∧ pr.transaction = none) ∧
    (pr.transaction.isSome = true → pr.selected = true) ∧
    (pr.presence = .present → pr.line = true) ∧ (pr.presence = .absent → pr.line = false)

/-- The slots of every port (R122, R123). -/
abbrev State.portLaw (s : State) : Prop := ∀ p : Port, s.ports[p].slotLaw

/-- The law of absent ports: no notices, no lease in HELD or GRACE, no waiter entry (R137). -/
abbrev State.absentLaw (s : State) : Prop :=
  ∀ p : Port, s.ports[p].presence = .absent →
    noticeSetEmpty s.notices[p] = true ∧
      ∀ l : LeaseId, s.leases[l].heldBy p = false ∧ s.leases[l].entryOf p = none

/-- A port's ATTN line is asserted exactly while its notice set is non-empty (R150). -/
abbrev State.attnLaw (s : State) : Prop := ∀ p : Port, s.attn[p] = !noticeSetEmpty s.notices[p]

/-- A notice record: some kind, a grant epoch other than 0 exactly with GRANTED, and a last reason, one of EXPIRED, REVOKED and
RESET, exactly with LAPSED (R143). -/
abbrev Notice.recordLaw (n : Notice) : Prop :=
  n.kinds ≠ 0 ∧ n.grantEpoch.isSome = n.kinds.has .granted ∧ n.grantEpoch ≠ some 0 ∧
    n.lastReason.isSome = n.kinds.has .lapsed ∧ n.lastReason ≠ some .released ∧ n.lastReason ≠ some .departed

/-- The notice records of every port (R143). -/
abbrev State.noticeLaw (s : State) : Prop := ∀ p : Port, ∀ l : LeaseId, ∀ n ∈ s.notices[p][l], n.recordLaw

/-! ### All of them -/

/-- The laws the spec states, together. -/
structure State.Lawful (s : State) : Prop where
  record : s.recordLaw
  tie : s.tieLaw
  deadline : s.deadlineLaw
  parking : s.parkingLaw
  outside : s.outsideLaw
  channel : s.channelLaw
  hold : s.holdLaw
  staging : s.stagingLaw
  pendingCommit : s.pendingLaw
  halt : s.haltLaw
  event : s.eventLaw
  port : s.portLaw
  absent : s.absentLaw
  attn : s.attnLaw
  notice : s.noticeLaw

end Sys2Proof.Machine
end

