-- ==== Sys2Proof/Certificates/Slice0/Obligations.lean ====
section
/-! DEFINITION. The statements for the provers, from the numbered rules of the spec. "Whole state" statements are equations:
the next state is the old one with the fields named, and every field not named is unchanged. -/

namespace Sys2Proof.Claims

open Sys2Proof.Machine

/-! ### Words the statements use -/

/-- The request codes (R160). -/
def requestCode : ReqCode → Byte
  | .define => 0x01
  | .undefine => 0x02
  | .configureChannel => 0x03
  | .revoke => 0x04
  | .resetLeases => 0x05
  | .acquire => 0x10
  | .withdraw => 0x11
  | .renew => 0x12
  | .transfer => 0x13
  | .release => 0x14
  | .stage => 0x20
  | .discard => 0x21
  | .commit => 0x22
  | .resume => 0x23
  | .park => 0x24
  | .readNotices => 0x30
  | .queryLease => 0x31
  | .queryChannel => 0x32
  | .queryDevice => 0x33

/-- The arbiter's next request is `q`, from port `p`, under the tag (R132, R141). -/
abbrev Takes (s : State) (p : Port) (tag : Byte) (q : HostRequest) : Prop :=
  s.nextRequest = some (p, { code := requestCode q.code, tag := tag, body := q.body }) ∧ q.inRange = true

/-- `s` with the request of port `p` answered: its request slot empty, its response slot READY, the pointer at the port (R131,
R132). -/
def answered (s : State) (p : Port) (tag : Byte) (st : Status) (body : List Byte) : State :=
  { s with
    ports := s.ports.set p.val
      { s.ports[p] with request := none, response := .ready { status := st, tag := tag, body := body } }
    arbiter := p }

/-- The level of a counter value under a set: the active level of the polarity below the width, else the inactive one (R70). -/
def levelAt (ps : ParamSet) (counter : Word16) : Level :=
  if counter < ps.width then (if ps.polarity = .activeHigh then .high else .low)
  else if ps.polarity = .activeHigh then .low else .high

/-- The channel is the lead of its lease, and that lease has a pending commit (R80). -/
abbrev LeadsPending (s : State) (c : ChannelId) (l : LeaseId) : Prop :=
  s.channels[c].lease = some l ∧ s.leases[l].hasLead c = true ∧ s.leases[l].commitPending = true

/-- The current count is the last of a period: the next count boundary is a period end (R76, R77, R78). -/
abbrev AtLastCount (ch : Channel) (ps : ParamSet) : Prop :=
  (ps.mode ≠ .centre ∧ ch.counter + 1 = ps.period) ∨ (ps.mode = .centre ∧ ch.direction = .down ∧ ch.counter = 1)

/-- A period end of the channel is reported: the three conditions of R80. -/
abbrev Reported (s : State) (c : ChannelId) (ps : ParamSet) : Prop :=
  s.channels[c].state = .parking ∨ ps.mode = .single ∨ ∃ l : LeaseId, LeadsPending s c l

/-- RUNNING or PARKING, with no boundary hold (R80). -/
abbrev Counting (ch : Channel) : Prop := (ch.state = .running ∨ ch.state = .parking) ∧ ch.hold = false

/-- A channel parked at once (R83, R84). -/
def parkedAtOnce (ch : Channel) : Channel :=
  if ch.state = .parked then ch
  else
    { ch with
      state := .parked
      hold := false
      level := match ch.parkAction with
        | .parkLow => .low
        | .parkHigh => .high
        | .parkFloat => .float
        | .parkHold => ch.level }

/-- A channel under a lapse start (R56). -/
def lapsedChannel (ch : Channel) (reason : LapseReason) : Channel :=
  if ch.state = .running ∧ ch.parkTiming = .atPeriodEnd ∧ reason ≠ .revoked then { ch with state := .parking }
  else if ch.state = .parking ∧ reason ≠ .revoked then ch
  else parkedAtOnce ch

/-- A channel started on a set (R74). -/
def startedOn (ch : Channel) (ps : ParamSet) : Channel :=
  { ch with state := .running, counter := ps.phase, direction := .up, hold := false, level := levelAt ps ps.phase }

/-- The channel has the set's inactive level, ENDED at 0, UP (R82). -/
def endedOn (ch : Channel) (ps : ParamSet) : Channel :=
  { ch with
    state := .ended
    counter := 0
    direction := .up
    hold := false
    level := if ps.polarity = .activeHigh then .low else .high }

/-- The channel counts on from 0, UP (R81). -/
def countedFromZero (ch : Channel) (ps : ParamSet) : Channel :=
  { ch with counter := 0, direction := .up, hold := false, level := levelAt ps 0 }

/-- The successor of an epoch (R14). -/
def successor (e : Word16) : Word16 := if e = 65535 then 1 else e + 1

/-- A lease record just granted (R33). -/
def grantedRecord (r : Lease) (p : Port) (term : Word16) (queue : List Waiter) : Lease :=
  { r with
    state := .held, holder := some p, departing := false, term := some term, epoch := successor r.epoch, reason := none
    queue := queue }

/-- A lease record that has gone VACANT (R3). -/
def vacantRecord (r : Lease) : Lease :=
  { r with state := .vacant, holder := none, departing := false, term := none, queue := [], commitPending := false, reason := none }

/-- A lease record whose lapse has started (R55). -/
def lapsingRecord (r : Lease) (reason : LapseReason) : Lease :=
  { r with state := .lapsing, departing := true, term := none, commitPending := false, reason := some reason }

/-- The lease record after a lapse has completed: granted to the queue head, or VACANT (R35, R61). -/
def handedOn (r : Lease) : Lease :=
  match r.queue with
  | [] => vacantRecord r
  | w :: rest => grantedRecord { r with commitPending := false } w.port w.term rest

/-- The state with one lease's queue replaced. -/
def withQueue (s : State) (l : LeaseId) (queue : List Waiter) : State :=
  { s with leases := s.leases.set l.val { s.leases[l] with queue := queue } }

/-- The slots with those of one lease's channels empty (R92). -/
def purgedSlots (s : State) (l : LeaseId) : Vector (Option StagedSet) 16 :=
  Vector.ofFn fun c : Fin 16 => if s.inLease l c then none else s.slots[c]

/-- The waiting events without a lease's expiries (R46). -/
def withdrawn (s : State) (l : LeaseId) : List (List Event) := withoutEvents (fun e => e.isExpiryOf l) s.events

/-- A lapse start of the lease with this reason leaves some channel PARKING (R56). -/
abbrev LeavesParking (s : State) (l : LeaseId) (reason : LapseReason) : Prop :=
  reason ≠ .revoked ∧
    ∃ c : ChannelId, s.inLease l c = true ∧ s.channels[c].state = .running ∧ s.channels[c].parkTiming = .atPeriodEnd

/-- The record for the lease in the port's notice set has the kind. -/
abbrev Told (s : State) (p : Port) (l : LeaseId) (k : NoticeKind) : Prop :=
  (s.notices[p][l].any fun n => n.kinds.has k) = true

/-- The holder requests, with the lease and epoch they carry, and whether the state step lets them pass in GRACE (R20, R22). -/
def holderFields : HostRequest → Option (LeaseId × Word16 × Bool)
  | .renew l e _ => some (l, e, true)
  | .transfer l e _ => some (l, e, false)
  | .release l e => some (l, e, true)
  | .stage l e _ _ => some (l, e, false)
  | .discard l e _ => some (l, e, true)
  | .commit l e => some (l, e, false)
  | .resume l e => some (l, e, false)
  | .park l e _ => some (l, e, true)
  | _ => none

/-- The supervisor requests (R20, R140). -/
def supervisorRequest : HostRequest → Bool
  | .define .. => true
  | .undefine .. => true
  | .revoke .. => true
  | .resetLeases => true
  | .configureChannel .. => true
  | _ => false

/-- The holder checks are passed: the port holds the lease under the epoch, and in GRACE only where allowed (R22). -/
abbrev MayAct (s : State) (p : Port) (l : LeaseId) (e : Word16) (inGrace : Bool) : Prop :=
  s.leases[l].heldBy p = true ∧ s.leases[l].epoch = e ∧ (inGrace = false → s.leases[l].state = .held)

/-- The bits of a byte, most significant first, and of a run of bytes (R124). -/
def bitsMsbFirst (bytes : List Byte) : List Bool := bytes.flatMap fun b => (List.range 8).map fun i => b.getLsbD (7 - i)

/-- How many ports the arbiter searches before it comes to `q`, when it served `last` before (R132). -/
def searchedBefore (last q : Port) : Nat := (q.val + 3 - last.val) % 4

/-- Some channel of the lease is halted by the take that asserts the line: its group contains the line and its mark is clear
(R114, R116). -/
abbrev NewlyHalted (s : State) (line : HaltLine) (l : LeaseId) : Prop :=
  ∃ c : ChannelId, s.inLease l c = true ∧ groupHas s.channels[c].haltGroup line = true ∧ s.channels[c].halted = false

/-- The take that asserts the line parks every PARKING channel of the LAPSING lease (R115). -/
abbrev HaltCompletes (s : State) (line : HaltLine) (l : LeaseId) : Prop :=
  s.leases[l].state = .lapsing ∧
    ∀ c : ChannelId, s.inLease l c = true → s.channels[c].state = .parking → groupHas s.channels[c].haltGroup line = true

/-- Some mark of the lease is cleared between two states, and none is left (R118). -/
abbrev AllReleased (s t : State) (l : LeaseId) : Prop :=
  (∃ c : ChannelId, s.inLease l c = true ∧ s.channels[c].halted = true ∧ t.channels[c].halted = false) ∧
    ∀ c : ChannelId, s.inLease l c = true → t.channels[c].halted = false

/-- The deadline of a lease whose lapse has completed: a TERM deadline for the queue head, or none (R33, R61). -/
def handedDeadline (s : State) (r : Lease) : Option Deadline :=
  match r.queue with
  | [] => none
  | w :: _ => some { kind := .term, tick := s.now + w.term.setWidth 32 }

/-- The state after a lapse of the lease has completed, its channels parked before: the record, the deadline, no raised expiry, empty
slots, and GRANTED with the new epoch told to the queue head, where there is one (R33, R46, R61). -/
def handedOver (s : State) (l : LeaseId) : State :=
  let t : State :=
    { s with
      leases := s.leases.set l.val (handedOn s.leases[l])
      deadlines := s.deadlines.set l.val (handedDeadline s s.leases[l])
      events := withdrawn s l
      slots := purgedSlots s l }
  match s.leases[l].queue with
  | [] => t
  | w :: _ => t.post w.port l (.granted (successor s.leases[l].epoch))

/-- The port's record for a lease after one more post (R144). -/
def posted (n : Option Notice) (k : Post) : Option Notice := some ((n.getD Notice.blank).add k)

/-- Each ATTN line after posts alone: asserted by a post into an empty set, else as it was (R144, R150). -/
abbrev AttnAfterPosts (s t : State) : Prop :=
  ∀ p : Port,
    t.attn[p] =
      if (∀ l : LeaseId, s.notices[p][l] = none) ∧ ∃ l : LeaseId, t.notices[p][l] ≠ none then true else s.attn[p]

/-- The waiting events after the take of a halt change of the line: the taken one is gone, and where the sampled level differs from
the new taken one and no change of the line waits, a new change is raised (R113). -/
def haltEventsAfter (s : State) (line : HaltLine) (taken : Bool) : List (List Event) :=
  let left := (s.dropDue (.haltChange line taken)).events
  if s.haltSampled.get line ≠ taken ∧ ∀ b ∈ left, ∀ e ∈ b, e.isChangeOf line = false then
    left ++ [[.haltChange line (!taken)]]
  else left

/-! ### The codes of chapter 9, as its tables give them -/

/-- The status values (R163). -/
def statusCode : Status → Byte
  | .ok => 0x00
  | .okLate => 0x01
  | .queued => 0x02
  | .empty => 0x10
  | .waiting => 0x11
  | .frameError => 0x20
  | .unknownRequest => 0x21
  | .badField => 0x22
  | .notSupervisor => 0x30
  | .notDefined => 0x31
  | .alreadyDefined => 0x32
  | .channelTaken => 0x33
  | .busy => 0x34
  | .notHeld => 0x35
  | .notHolder => 0x40
  | .stale => 0x41
  | .alreadyHolder => 0x42
  | .alreadyWaiting => 0x43
  | .notWaiting => 0x44
  | .inGrace => 0x45
  | .commitPending => 0x50
  | .nothingStaged => 0x51
  | .halted => 0x52

/-- The kinds field: bit 0 GRANTED up to bit 8 SINGLE_ENDED, bits 9 to 15 always 0 (R165). -/
def kindsWord (ks : KindSet) : Word16 :=
  (if ks.has .granted then 0x0001 else 0) ||| (if ks.has .grace then 0x0002 else 0) |||
    (if ks.has .lapsed then 0x0004 else 0) ||| (if ks.has .committed then 0x0008 else 0) |||
    (if ks.has .commitCancelled then 0x0010 else 0) ||| (if ks.has .halted then 0x0020 else 0) |||
    (if ks.has .haltCleared then 0x0040 else 0) ||| (if ks.has .waitCancelled then 0x0080 else 0) |||
    (if ks.has .singleEnded then 0x0100 else 0)

/-- Lapse reasons, 0 for absent (R165). -/
def reasonCode : Option LapseReason → Byte
  | none => 0
  | some .expired => 1
  | some .released => 2
  | some .revoked => 3
  | some .departed => 4
  | some .reset => 5

/-- Lease states (R166). -/
def leaseStateCode : LeaseState → Byte
  | .undefined => 0
  | .vacant => 1
  | .held => 2
  | .grace => 3
  | .lapsing => 4

/-- A port or channel owner: its number, or 0xFF for none (R166, R167). -/
def ownerCode {n : Nat} : Option (Fin n) → Byte
  | none => 0xFF
  | some p => BitVec.ofNat 8 p.val

/-- Channel states (R167). -/
def channelStateCode : ChannelState → Byte
  | .parked => 0
  | .running => 1
  | .parking => 2
  | .ended => 3

/-- Park actions (R161). -/
def parkActionCode : ParkAction → Byte
  | .parkLow => 0
  | .parkHigh => 1
  | .parkFloat => 2
  | .parkHold => 3

/-- Halt groups (R161). -/
def haltGroupCode : HaltGroup → Byte
  | .none => 0
  | .h0 => 1
  | .h1 => 2
  | .both => 3

/-- Modes (R162). -/
def modeCode : Mode → Byte
  | .edge => 0
  | .centre => 1
  | .single => 2

/-- Presence states (R167). -/
def presenceCode : Presence → Byte
  | .absent => 0
  | .present => 1
  | .leaving => 2

/-- A take of a request whose code is `k` finds that request next. -/
abbrev NextIs (s : State) (k : ReqCode) (p : Port) (r : Request) : Prop :=
  s.nextRequest = some (p, r) ∧ r.code = requestCode k

end Sys2Proof.Claims

open Sys2Proof Sys2Proof.Machine Sys2Proof.Claims

/-! ### The step and the commands -/

/-- The step executes the front command with the queue's rest. On an empty queue it idles: that clause is the model's choice (log
9). -/
def Obligations.StepRunsFrontCommand : Prop :=
  (∀ (s : State) (c : Instr) (rest : List Instr), s.pending = c :: rest → step s = exec c { s with pending := rest }) ∧
    ∀ s : State, s.pending = [] → step s = .next s

/-- Every command that names units the part has (L0 to L15, CH0 to CH15, P0 to P3) completes and leaves the queue of waiting
commands as it is; a command that names a unit the part does not have faults by name (the model's stop, log 3). -/
def Obligations.WellFormedCommandsCompleteOthersFault : Prop :=
  (∀ (c : Instr) (s : State), c.wellFormed = true → ∃ t : State, exec c s = .next t ∧ t.pending = s.pending) ∧
    (∀ (n : Nat) (s : State), 16 ≤ n →
      exec (.termExpiry n) s = .fault .noSuchLease ∧ exec (.graceExpiry n) s = .fault .noSuchLease ∧
        exec (.periodEnd n) s = .fault .noSuchChannel ∧ exec (.periodEndTake n) s = .fault .noSuchChannel ∧
        exec (.count n) s = .fault .noSuchChannel) ∧
    ∀ (n : Nat) (s : State) (mosi : List Bool), 4 ≤ n →
      exec (.presentFall n) s = .fault .noSuchPort ∧ exec (.departure n) s = .fault .noSuchPort ∧
        exec (.portReturn n) s = .fault .noSuchPort ∧ exec (.csFall n) s = .fault .noSuchPort ∧
        exec (.csRise n mosi) s = .fault .noSuchPort

/-- A take whose occasion does not stand takes nothing and changes nothing (the model's choice, log 2): of an event that is not
due, and of a request that is not the arbiter's next. -/
def Obligations.TakesWithoutTheirOccasionChangeNothing : Prop :=
  (∀ (s : State) (l : LeaseId), .expiry l .term ∉ s.due → exec (.termExpiry l.val) s = .next s) ∧
    (∀ (s : State) (l : LeaseId), .expiry l .grace ∉ s.due → exec (.graceExpiry l.val) s = .next s) ∧
    (∀ (s : State) (c : ChannelId), (∀ n : Nat, .periodEnd c n ∉ s.due) → exec (.periodEndTake c.val) s = .next s) ∧
    (∀ (s : State) (line : HaltLine), .haltChange line true ∉ s.due → exec (.haltAssertion line) s = .next s) ∧
    (∀ (s : State) (line : HaltLine), .haltChange line false ∉ s.due → exec (.haltRelease line) s = .next s) ∧
    (∀ (s : State) (p : Port), .departure p ∉ s.due → exec (.departure p.val) s = .next s) ∧
    (∀ (s : State) (k : ReqCode), (∀ (p : Port) (r : Request), ¬NextIs s k p r) → exec k.command s = .next s) ∧
    ∀ s : State, (∀ (p : Port) (r : Request), s.nextRequest = some (p, r) → ∃ k : ReqCode, r.code = requestCode k) →
      exec .unknownRequest s = .next s

/-! ### Encodings -/

/-- Every request in range, written out by the layouts of R160 to R162, is read back as itself. -/
def Obligations.RequestBodiesDecodeBack : Prop :=
  ∀ q : HostRequest, q.inRange = true → decodeBody q.code q.body = some q

/-- A body that is not refused BAD_FIELD is the layout of exactly the request read from it, and that request is in range. -/
def Obligations.DecodedBodiesEncodeBack : Prop :=
  ∀ (k : ReqCode) (body : List Byte) (q : HostRequest),
    decodeBody k body = some q → q.code = k ∧ q.body = body ∧ q.inRange = true

/-- R159: the register starts at 0xFF; each byte is combined in and stepped eight times, shifting left and combining with 0x07
where the bit shifted out is 1. Every outward frame carries that CRC of the bytes before it; an inward frame is accepted only if
the byte at offset 3 + length is it; and over a whole frame, CRC byte included, the register ends at 0 exactly when the CRC byte
is right. -/
def Obligations.FrameCheckIsTheCrcAndLeavesZero : Prop :=
  (∀ bytes : List Byte,
      crc8 bytes =
        bytes.foldl
          (fun r b => (fun x : Byte => if x.msb then (x <<< 1) ^^^ 0x07 else x <<< 1)^[8] (r ^^^ b)) 0xFF) ∧
    (∀ (first tag : Byte) (body : List Byte),
      frameOf first tag body =
        [first, tag, BitVec.ofNat 8 body.length] ++ body ++
          [crc8 ([first, tag, BitVec.ofNat 8 body.length] ++ body)]) ∧
    (∀ (bytes : List Byte) (r : Request), readInward bytes = .valid r →
      bytes[3 + r.body.length]? = some (crc8 (bytes.take (3 + r.body.length)))) ∧
    ∀ (bytes : List Byte) (b : Byte), crcFrom 0xFF (bytes ++ [b]) = 0 ↔ b = crc8 bytes

/-- A request frame clocked whole, most significant bit first, with anything clocked after it, is read as the request it carries;
a first byte of 0 is a NOP, and so is a transaction with no whole byte (R124, R126, R128). The bits a host samples are the outward
frame's, most significant first, and then fill bytes of all ones (R124, R125). -/
def Obligations.ClockedFramesTravelBothWays : Prop :=
  (∀ (code tag : Byte) (body : List Byte) (after : List Bool), code ≠ 0 → body.length ≤ 60 →
      readInward (bytesOf (bitsMsbFirst (frameOf code tag body) ++ after)) =
        .valid { code := code, tag := tag, body := body }) ∧
    (∀ (bytes : List Byte) (after : List Bool), bytes.head? = some 0 →
      readInward (bytesOf (bitsMsbFirst bytes ++ after)) = .nop) ∧
    (∀ bits : List Bool, bits.length < 8 → readInward (bytesOf bits) = .nop) ∧
    ∀ (frame : List Byte) (fill : Nat),
      bytesOf (shiftedBits frame (8 * (frame.length + fill))) = frame ++ List.replicate fill 0xFF

/-- R128: a frame whose first byte is not 0 is valid exactly if three bytes were clocked and the length is 60 or less, the whole
frame was clocked, and the CRC byte is that of the bytes before it. -/
def Obligations.FrameIsValidByItsThreeChecks : Prop :=
  ∀ (code : Byte) (rest : List Byte), code ≠ 0 →
    ((∃ r : Request, readInward (code :: rest) = .valid r) ↔
      ∃ tag len : Byte, ∃ more : List Byte,
        rest = tag :: len :: more ∧ len.toNat ≤ 60 ∧ 3 + len.toNat + 1 ≤ (code :: rest).length ∧
          (code :: rest)[3 + len.toNat]? = some (crc8 ((code :: rest).take (3 + len.toNat))))

/-! ### The device -/

/-- DEVICE_RESET gives every record its reset value, from the pin levels as reset ends, and discards every raised event (R1, R13,
R44, R45, R68, R91, R112, R122, R143, R150). -/
def Obligations.DeviceResetGivesResetValues : Prop :=
  ∀ (pins : Pins) (s : State), ∃ t : State, exec (.deviceReset pins) s = .next t ∧ t.pending = s.pending ∧
    t.now = 0 ∧ t.events = [] ∧ t.arbiter = 3 ∧ t.haltTaken = { h0 := pins.halt0, h1 := pins.halt1 } ∧
    (∀ l : LeaseId,
      t.leases[l] =
          { state := .undefined, defn := none, holder := none, departing := false, term := none, epoch := 0, queue := [],
            commitPending := false, reason := none } ∧
        t.deadlines[l] = none) ∧
    (∀ c : ChannelId,
      t.slots[c] = none ∧ t.channels[c].state = .parked ∧ t.channels[c].lease = none ∧
        t.channels[c].parkAction = .parkFloat ∧ t.channels[c].parkTiming = .atOnce ∧ t.channels[c].haltGroup = .none ∧
        t.channels[c].halted = false ∧ t.channels[c].active = none ∧ t.channels[c].counter = 0 ∧
        t.channels[c].direction = .up ∧ t.channels[c].hold = false ∧ t.channels[c].level = .float) ∧
    ∀ p : Port,
      t.ports[p].presence = (if pins.present[p] = true then .present else .absent) ∧ t.ports[p].request = none ∧
        t.ports[p].response = .empty ∧ t.ports[p].transaction = none ∧ t.attn[p] = false ∧
        ∀ l : LeaseId, t.notices[p][l] = none

/-- The reset state keeps every law of the part (with the pin levels of log 1). -/
def Obligations.ResetStateIsLawful : Prop := State.reset.Lawful

/-- TICK: now advances by one modulo 2^32, and every deadline equal to the new value raises its own expiry event, behind the events
already waiting; nothing else changes (R44, R46). That the expiries of one tick arrive together, as one arrival, is the model's
reading of R46 (DEDUCED, log 4). -/
def Obligations.TickRaisesReachedDeadlines : Prop :=
  ∀ s : State, ∃ es : List Event,
    exec .tick s =
        .next { s with now := s.now + 1, events := if es = [] then s.events else s.events ++ [es] } ∧
      es.Nodup ∧
      ∀ e : Event, e ∈ es ↔
        ∃ (l : LeaseId) (d : Deadline), s.deadlines[l] = some d ∧ d.tick = s.now + 1 ∧ e = .expiry l d.kind

/-- TERM_EXPIRY due: with grace above 0 the lease enters GRACE with a GRACE deadline at now plus grace and GRACE is posted to the
holder; with grace 0 the lease lapses with reason EXPIRED (R52). -/
def Obligations.TermExpiryEntersGraceOrLapses : Prop :=
  ∀ (s : State) (l : LeaseId) (d : LeaseDef) (p : Port),
    .expiry l .term ∈ s.due → s.leases[l].defn = some d → s.leases[l].holder = some p →
      (d.grace ≠ 0 →
        exec (.termExpiry l.val) s =
          .next ({ s with
            leases := s.leases.set l.val { s.leases[l] with state := .grace }
            deadlines := s.deadlines.set l.val (some { kind := .grace, tick := s.now + d.grace.setWidth 32 })
            events := withdrawn (s.dropDue (.expiry l .term)) l }.post p l .grace)) ∧
      (d.grace = 0 → exec (.termExpiry l.val) s = .next ((s.dropDue (.expiry l .term)).lapse l .expired))

/-- GRACE_EXPIRY due: the lease lapses with reason EXPIRED, and its holder is told LAPSED (R54). -/
def Obligations.GraceExpiryLapsesTheLease : Prop :=
  ∀ (s : State) (l : LeaseId) (p : Port),
    .expiry l .grace ∈ s.due → s.leases[l].holder = some p →
      ∃ t : State, exec (.graceExpiry l.val) s = .next t ∧ t = (s.dropDue (.expiry l .grace)).lapse l .expired ∧
        Told t p l .lapsed ∧ t.ports = s.ports ∧ t.now = s.now

/-! ### Counting and period ends -/

/-- COUNT: a counting channel that is not at a reported period end steps by its mode, wraps or turns, and drives the level of the
new value; nothing else changes. At a reported period end, and for a channel that is not counting, COUNT changes nothing (R70,
R71, R76, R77, R80; that a reported period end is PERIOD_END's alone is the model's choice, log 2). -/
def Obligations.CountFollowsTheMode : Prop :=
  ∀ (s : State) (c : ChannelId) (ps : ParamSet), s.channels[c].active = some ps →
    (Counting s.channels[c] → ¬(AtLastCount s.channels[c] ps ∧ Reported s c ps) →
      ∃ (k : Word16) (d : Direction),
        exec (.count c.val) s =
            .next { s with
              channels := s.channels.set c.val { s.channels[c] with counter := k, direction := d, level := levelAt ps k } } ∧
          (AtLastCount s.channels[c] ps → k = 0 ∧ d = .up) ∧
          (¬AtLastCount s.channels[c] ps → ps.mode ≠ .centre → k = s.channels[c].counter + 1 ∧ d = .up) ∧
          (¬AtLastCount s.channels[c] ps → ps.mode = .centre → s.channels[c].direction = .down →
            k = s.channels[c].counter - 1 ∧ d = .down) ∧
          (ps.mode = .centre → s.channels[c].direction = .up → s.channels[c].counter ≠ ps.period →
            k = s.channels[c].counter + 1 ∧ d = .up) ∧
          (ps.mode = .centre → s.channels[c].direction = .up → s.channels[c].counter = ps.period →
            k = ps.period - 1 ∧ d = .down)) ∧
      (¬Counting s.channels[c] ∨ (AtLastCount s.channels[c] ps ∧ Reported s c ps) → exec (.count c.val) s = .next s)

/-- R76: from counter 0 a RUNNING EDGE channel whose period ends are not reported stands, after k counts, at k modulo its period,
UP, and drives the active level exactly while that value is below the width. -/
def Obligations.EdgeChannelRunsItsPeriods : Prop :=
  ∀ (s : State) (c : ChannelId) (ps : ParamSet) (k : Nat),
    s.channels[c].active = some ps → ps.mode = .edge → ps.valid = true → s.channels[c].state = .running →
      s.channels[c].hold = false → s.channels[c].counter = 0 → s.channels[c].direction = .up →
      s.channels[c].level = levelAt ps 0 → (∀ l : LeaseId, ¬LeadsPending s c l) →
        ∃ t : State,
          core.run k { s with pending := List.replicate k (.count c.val) } = .next t ∧
            t = { s with
              pending := []
              channels := s.channels.set c.val
                { s.channels[c] with
                  counter := BitVec.ofNat 16 (k % ps.period.toNat)
                  level := levelAt ps (BitVec.ofNat 16 (k % ps.period.toNat)) } }

/-- R77: from counter 0, UP, a RUNNING CENTRE channel whose period ends are not reported counts up to its period and down again,
2 × period counts to a period: with j = k modulo 2 × period it stands at j, UP, up to j = period, and at 2 × period − j, DOWN,
after it. -/
def Obligations.CentreChannelRunsItsPeriods : Prop :=
  ∀ (s : State) (c : ChannelId) (ps : ParamSet) (k j : Nat),
    s.channels[c].active = some ps → ps.mode = .centre → ps.valid = true → s.channels[c].state = .running →
      s.channels[c].hold = false → s.channels[c].counter = 0 → s.channels[c].direction = .up →
      s.channels[c].level = levelAt ps 0 → (∀ l : LeaseId, ¬LeadsPending s c l) → j = k % (2 * ps.period.toNat) →
        ∃ t : State,
          core.run k { s with pending := List.replicate k (.count c.val) } = .next t ∧
            t.channels[c].counter.toNat = (if j ≤ ps.period.toNat then j else 2 * ps.period.toNat - j) ∧
            t.channels[c].direction = (if j ≤ ps.period.toNat then .up else .down) ∧
            t.channels[c].level = levelAt ps t.channels[c].counter ∧ t.channels[c].state = .running

/-- PERIOD_END: at a reported period end the channel stops at 0, UP under a new boundary hold with the held level of its mode, and
raises one period-end event naming that hold; nothing else changes (R80). That the hold's name is the channel's count of reported
period ends is the model's choice (log 5), and that PERIOD_END changes nothing at a period end that is not reported is the model's
choice too (log 2). -/
def Obligations.ReportedPeriodEndHoldsChannel : Prop :=
  ∀ (s : State) (c : ChannelId) (ps : ParamSet), s.channels[c].active = some ps → ps.valid = true →
    Counting s.channels[c] →
    (AtLastCount s.channels[c] ps → Reported s c ps →
      exec (.periodEnd c.val) s =
        .next { s with
          channels := s.channels.set c.val
            { s.channels[c] with
              counter := 0
              direction := .up
              hold := true
              holdSerial := s.channels[c].holdSerial + 1
              level := match ps.mode with
                | .edge => levelAt ps (ps.period - 1)
                | .centre => levelAt ps 1
                | .single => if ps.polarity = .activeHigh then .low else .high }
          events := s.events ++ [[.periodEnd c (s.channels[c].holdSerial + 1)]] }) ∧
      (¬(AtLastCount s.channels[c] ps ∧ Reported s c ps) → exec (.periodEnd c.val) s = .next s)

/-- PERIOD_END_TAKE of an event whose hold has ended has no effect beyond taking the event; of a PARKING channel under the hold
named, the channel parks at once, and the lapse completes if it was the last PARKING channel of its lease (R60, R81). -/
def Obligations.PeriodEndTakeIgnoresEndedHoldsAndParks : Prop :=
  (∀ (s : State) (c : ChannelId) (n : Nat), s.duePeriodEnd c = some n →
      ¬(s.channels[c].hold = true ∧ s.channels[c].holdSerial = n) →
        exec (.periodEndTake c.val) s = .next (s.dropDue (.periodEnd c n))) ∧
    ∀ (s : State) (c : ChannelId) (n : Nat) (l : LeaseId), s.duePeriodEnd c = some n →
      s.channels[c].hold = true → s.channels[c].holdSerial = n → s.channels[c].state = .parking →
        s.channels[c].lease = some l →
          exec (.periodEndTake c.val) s =
            .next (State.completeIfParked
              { s.dropDue (.periodEnd c n) with channels := s.channels.set c.val (parkedAtOnce s.channels[c]) } l)

/-- PERIOD_END_TAKE of a lead with a pending commit: the commit executes. A lead without a staged set counts on from 0, or goes
ENDED with SINGLE_ENDED posted to the holder if its mode is SINGLE (R81, R99, R100, R103). -/
def Obligations.BoundaryExecutesThePendingCommit : Prop :=
  ∀ (s : State) (c : ChannelId) (n : Nat) (l : LeaseId) (ps : ParamSet) (p : Port), s.duePeriodEnd c = some n →
    s.channels[c].hold = true → s.channels[c].holdSerial = n → s.channels[c].state = .running →
      LeadsPending s c l → s.inLease l c = true → s.channels[c].active = some ps → s.leases[l].holder = some p →
        (s.slots[c].isSome = true →
          exec (.periodEndTake c.val) s = .next ((s.dropDue (.periodEnd c n)).executeCommit l)) ∧
        (s.slots[c] = none → ps.mode ≠ .single →
          exec (.periodEndTake c.val) s =
            .next (((s.dropDue (.periodEnd c n)).executeCommit l).modChannel c fun ch => countedFromZero ch ps)) ∧
        (s.slots[c] = none → ps.mode = .single →
          exec (.periodEndTake c.val) s =
            .next ((((s.dropDue (.periodEnd c n)).executeCommit l).modChannel c fun ch => endedOn ch ps).post p l
              .singleEnded))

/-- PERIOD_END_TAKE of a RUNNING channel that leads no pending commit: a SINGLE channel goes ENDED and SINGLE_ENDED is posted to
the holder of its lease; any other counts on from 0, UP (R78, R81, R82). -/
def Obligations.SingleChannelEndsOthersCountOn : Prop :=
  ∀ (s : State) (c : ChannelId) (n : Nat) (l : LeaseId) (ps : ParamSet) (p : Port), s.duePeriodEnd c = some n →
    s.channels[c].hold = true → s.channels[c].holdSerial = n → s.channels[c].state = .running →
      s.channels[c].lease = some l → ¬LeadsPending s c l → s.channels[c].active = some ps →
      s.leases[l].holder = some p →
        exec (.periodEndTake c.val) s =
          .next (if ps.mode = .single then
            ({ s.dropDue (.periodEnd c n) with channels := s.channels.set c.val (endedOn s.channels[c] ps) }).post p l
              .singleEnded
          else { s.dropDue (.periodEnd c n) with channels := s.channels.set c.val (countedFromZero s.channels[c] ps) })

/-! ### Halt lines -/

/-- HALT_CHANGE: the level sampled is noted, and raises one halt change event, carrying that level, if it differs from the taken
level and none is waiting for the line (R113). -/
def Obligations.HaltChangeRaisesAtMostOneEvent : Prop :=
  ∀ (s : State) (line : HaltLine) (asserted : Bool),
    exec (.haltChange line asserted) s =
      .next { s with
        haltSampled := s.haltSampled.put line asserted
        events :=
          if asserted ≠ s.haltTaken.get line ∧ ∀ b ∈ s.events, ∀ e ∈ b, e.isChangeOf line = false then
            s.events ++ [[.haltChange line asserted]]
          else s.events }

/-- HALT_ASSERTION due, in a lawful state: the line is ASSERTED; every channel whose group contains it and whose mark was clear is
marked and parked at once, every other is untouched; a HELD or GRACE lease with such a channel loses its pending commit and its
holder is told HALTED, and COMMIT_CANCELLED if a commit was pending; a LAPSING lease all of whose PARKING channels are so parked
completes its lapse, with the deadline and the GRANTED of a grant to its queue head; every other lease is untouched, and so are the
staging slots, all other deadlines and all other notices (R113 to R116, R121). -/
def Obligations.HaltAssertionMarksParksAndCancels : Prop :=
  ∀ (s : State) (line : HaltLine), s.Lawful → .haltChange line true ∈ s.due →
    ∃ t : State, exec (.haltAssertion line) s = .next t ∧ t.haltTaken = s.haltTaken.put line true ∧
      (∀ c : ChannelId,
        t.channels[c] =
          if groupHas s.channels[c].haltGroup line = true ∧ s.channels[c].halted = false then
            { parkedAtOnce s.channels[c] with halted := true }
          else s.channels[c]) ∧
      (∀ l : LeaseId,
        t.leases[l] =
          if s.leases[l].live = true ∧ NewlyHalted s line l then { s.leases[l] with commitPending := false }
          else if HaltCompletes s line l then handedOn s.leases[l]
          else s.leases[l]) ∧
      (∀ l : LeaseId,
        t.deadlines[l] = if HaltCompletes s line l then handedDeadline s s.leases[l] else s.deadlines[l]) ∧
      (∀ (p : Port) (l : LeaseId),
        t.notices[p][l] =
          if s.leases[l].live = true ∧ NewlyHalted s line l ∧ s.leases[l].holder = some p then
            if s.leases[l].commitPending = true then posted (posted s.notices[p][l] .commitCancelled) .halted
            else posted s.notices[p][l] .halted
          else if HaltCompletes s line l ∧ (s.leases[l].queue.head?.map Waiter.port) = some p then
            posted s.notices[p][l] (.granted (successor s.leases[l].epoch))
          else s.notices[p][l]) ∧
      AttnAfterPosts s t ∧ t.events = haltEventsAfter s line true ∧ t.slots = s.slots ∧ t.ports = s.ports ∧ t.now = s.now ∧
      t.arbiter = s.arbiter ∧ t.haltSampled = s.haltSampled ∧ t.pending = s.pending

/-- HALT_RELEASE due: the line is RELEASED; marks whose condition is now false are cleared and nothing else of any channel changes; a
HELD or GRACE lease with a mark cleared and none left has HALT_CLEARED posted to its holder, and no other lease and no other port
gets a notice; the comparison that ends the take may raise the line's next change. Leases, deadlines, staging slots and ports are
untouched (R113, R117, R118). -/
def Obligations.HaltReleaseClearsMarks : Prop :=
  ∀ (s : State) (line : HaltLine), .haltChange line false ∈ s.due →
    ∃ t : State, exec (.haltRelease line) s = .next t ∧ t.haltTaken = s.haltTaken.put line false ∧
      (∀ c : ChannelId,
        t.channels[c] =
          { s.channels[c] with
            halted := s.channels[c].halted && haltCondition s.channels[c].haltGroup (s.haltTaken.put line false) }) ∧
      (∀ (p : Port) (l : LeaseId),
        t.notices[p][l] =
          if s.leases[l].live = true ∧ s.leases[l].holder = some p ∧ AllReleased s t l then
            posted s.notices[p][l] .haltCleared
          else s.notices[p][l]) ∧
      AttnAfterPosts s t ∧ t.events = haltEventsAfter s line false ∧ t.leases = s.leases ∧ t.deadlines = s.deadlines ∧
      t.slots = s.slots ∧ t.ports = s.ports ∧ t.now = s.now ∧ t.arbiter = s.arbiter ∧ t.haltSampled = s.haltSampled ∧
      t.pending = s.pending

/-! ### Presence -/

/-- PRESENT_FALL: a PRESENT port becomes LEAVING with empty slots, its transaction abandoned, and raises its departure event; any
other port only has its line noted low (R135, R138). RETURN: an ABSENT port becomes PRESENT with empty slots and raises nothing;
any other port only has its line noted high (R138). -/
def Obligations.PresenceLinesMoveThePort : Prop :=
  ∀ (s : State) (p : Port),
    (s.ports[p].presence = .present →
      exec (.presentFall p.val) s =
        .next { s with
          ports := s.ports.set p.val
            { s.ports[p] with
              presence := .leaving, request := none, response := .empty, transaction := none, line := false }
          events := s.events ++ [[.departure p]] }) ∧
    (s.ports[p].presence ≠ .present →
      exec (.presentFall p.val) s = .next { s with ports := s.ports.set p.val { s.ports[p] with line := false } }) ∧
    exec (.portReturn p.val) s =
      .next { s with
        ports := s.ports.set p.val
          (if s.ports[p].presence = .absent then
            { s.ports[p] with
              presence := .present, request := none, response := .empty, transaction := none, line := true }
          else { s.ports[p] with line := true }) }

/-- DEPARTURE due, in a lawful state: the port's entries leave every queue; every lease it holds lapses DEPARTED, its slots emptied
and its expiry withdrawn, completing within the take unless a channel is left PARKING, with the deadline and the GRANTED of a grant
to its queue head; its notice set is empty and ATTN released; it is ABSENT, or PRESENT if its line is high; the other leases, their
channels, slots and deadlines, and all other notices are untouched (R42, R55, R61, R66, R67, R136, R138, R151). -/
def Obligations.DepartureEndsAllThePortHeld : Prop :=
  ∀ (s : State) (p : Port), s.Lawful → .departure p ∈ s.due →
    ∃ t : State, exec (.departure p.val) s = .next t ∧
      (∀ l : LeaseId, s.leases[l].heldBy p = false →
        t.leases[l] = { s.leases[l] with queue := s.leases[l].queue.filter fun w => w.port != p } ∧
          t.deadlines[l] = s.deadlines[l]) ∧
      (∀ l : LeaseId, s.leases[l].heldBy p = true →
        t.leases[l] =
            (if LeavesParking s l .departed then lapsingRecord s.leases[l] .departed else handedOn s.leases[l]) ∧
          t.deadlines[l] = if LeavesParking s l .departed then none else handedDeadline s s.leases[l]) ∧
      (∀ c : ChannelId,
        t.channels[c] =
          if ∃ l : LeaseId, s.leases[l].heldBy p = true ∧ s.inLease l c = true then
            lapsedChannel s.channels[c] .departed
          else s.channels[c]) ∧
      (∀ c : ChannelId,
        t.slots[c] =
          if ∃ l : LeaseId, s.leases[l].heldBy p = true ∧ s.inLease l c = true then none else s.slots[c]) ∧
      (∀ l : LeaseId, t.notices[p][l] = none) ∧ t.attn[p] = false ∧
      (∀ q : Port, q ≠ p →
        (∀ l : LeaseId,
          t.notices[q][l] =
            if s.leases[l].heldBy p = true ∧ ¬LeavesParking s l .departed ∧
                (s.leases[l].queue.head?.map Waiter.port) = some q then
              posted s.notices[q][l] (.granted (successor s.leases[l].epoch))
            else s.notices[q][l]) ∧
          (t.attn[q] = true ↔ ∃ l : LeaseId, t.notices[q][l] ≠ none)) ∧
      t.events =
        withoutEvents (fun e => leaseIds.any fun l => s.leases[l].heldBy p && e.isExpiryOf l)
          (s.dropDue (.departure p)).events ∧
      t.ports =
        s.ports.set p.val { s.ports[p] with presence := if s.ports[p].line = true then .present else .absent } ∧
      t.now = s.now ∧ t.haltTaken = s.haltTaken ∧ t.haltSampled = s.haltSampled ∧ t.arbiter = s.arbiter ∧
      t.pending = s.pending

/-! ### Transactions -/

/-- CS_FALL: on a PRESENT port whose chip select was high it begins a transaction whose outward frame is fixed by the response
slot; a port that is LEAVING or ABSENT begins none. Nothing but the port's record changes (R124, R125, R158, with the status values
of R163). -/
def Obligations.ChipSelectFallFixesTheOutwardFrame : Prop :=
  ∀ (s : State) (p : Port), s.ports[p].selected = false →
    (∀ (frame : List Byte) (ready : Bool), s.ports[p].presence = .present →
      ((s.ports[p].response = .empty ∧ frame = [0x10, 0x00, 0x00, 0x89] ∧ ready = false) ∨
        (∃ r : Request, s.ports[p].response = .waiting ∧ s.ports[p].request = some r ∧
          frame = [0x11, r.tag, 0x00, crc8 [0x11, r.tag, 0x00]] ∧ ready = false) ∨
        (∃ a : Response, s.ports[p].response = .ready a ∧ ready = true ∧
          frame = [statusCode a.status, a.tag, BitVec.ofNat 8 a.body.length] ++ a.body ++
            [crc8 ([statusCode a.status, a.tag, BitVec.ofNat 8 a.body.length] ++ a.body)])) →
      exec (.csFall p.val) s =
        .next { s with
          ports := s.ports.set p.val
            { s.ports[p] with selected := true, transaction := some { outward := frame, carriesAnswer := ready } } }) ∧
    (s.ports[p].presence ≠ .present →
      exec (.csFall p.val) s = .next { s with ports := s.ports.set p.val { s.ports[p] with selected := true } })

/-- CS_RISE of a PRESENT port's transaction: a READY answer whose whole frame was clocked is delivered first; then, into a slot
that is EMPTY, a valid frame is placed, an invalid one answered FRAME_ERROR, and a NOP places nothing; into a slot that is WAITING
or READY nothing is placed. Where no transaction stands (abandoned, or none begun) the rise does no work. Nothing but the port's
record changes (R127, R129, R130, R135). That the port's record keeps in `miso` the bits the transaction shifted out is the model's
choice (log 6). -/
def Obligations.ChipSelectRiseDeliversThenPlaces : Prop :=
  (∀ (s : State) (p : Port) (tr : Transaction) (mosi : List Bool) (slot : ResponseSlot),
    s.ports[p].presence = .present → s.ports[p].selected = true → s.ports[p].transaction = some tr →
      slot = (if tr.carriesAnswer = true ∧ tr.outward.length ≤ (bytesOf mosi).length then .empty else s.ports[p].response) →
        ∃ req resp,
          exec (.csRise p.val mosi) s =
              .next { s with
                ports := s.ports.set p.val
                  { s.ports[p] with
                    transaction := none
                    selected := false
                    miso := shiftedBits tr.outward mosi.length
                    request := req
                    response := resp } } ∧
            (slot ≠ .empty → req = s.ports[p].request ∧ resp = slot) ∧
            (slot = .empty → readInward (bytesOf mosi) = .nop → req = s.ports[p].request ∧ resp = .empty) ∧
            (∀ r : Request, slot = .empty → readInward (bytesOf mosi) = .valid r → req = some r ∧ resp = .waiting) ∧
            ∀ tag : Byte, slot = .empty → readInward (bytesOf mosi) = .invalid tag →
              req = s.ports[p].request ∧ resp = .ready { status := .frameError, tag := tag, body := [] }) ∧
    ∀ (s : State) (p : Port) (mosi : List Bool),
      s.ports[p].selected = true → s.ports[p].presence ≠ .present ∨ s.ports[p].transaction = none →
        exec (.csRise p.val mosi) s =
          .next { s with ports := s.ports.set p.val { s.ports[p] with selected := false, transaction := none } }

/-! ### Supervisor requests -/

/-- An accepted DEFINE: the lease is VACANT under the definition, with its epoch kept, and its channels' lease fields name it; OK
with the epoch. A lease that is not UNDEFINED is refused ALREADY_DEFINED, a channel of another lease CHANNEL_TAKEN (R17, R18). -/
def Obligations.DefineMakesTheLeaseVacant : Prop :=
  ∀ (s : State) (tag : Byte) (l : LeaseId) (d : LeaseDef), Takes s 0 tag (.define l d) →
    (s.leases[l].state ≠ .undefined → exec .define s = .next (answered s 0 tag .alreadyDefined [])) ∧
    (s.leases[l].state = .undefined → (∃ l' : LeaseId, ∃ c : ChannelId, s.inLease l' c = true ∧ d.channels.getLsbD c.val = true) →
      exec .define s = .next (answered s 0 tag .channelTaken [])) ∧
    (s.leases[l].state = .undefined → (∀ l' : LeaseId, ∀ c : ChannelId, s.inLease l' c = true → d.channels.getLsbD c.val = false) →
      exec .define s =
        .next (answered
          { s with
            leases := s.leases.set l.val { vacantRecord s.leases[l] with defn := some d }
            deadlines := s.deadlines.set l.val none
            events := withdrawn s l
            channels := Vector.ofFn fun c : Fin 16 =>
              if d.channels.getLsbD c.val then { s.channels[c] with lease := some l } else s.channels[c] }
          0 tag .ok (wordBytes s.leases[l].epoch)))

/-- R19: an accepted UNDEFINE makes the lease UNDEFINED, its definition absent and its epoch kept, and frees its channels; OK with
an empty body. UNDEFINED is refused NOT_DEFINED; HELD, GRACE and LAPSING are refused BUSY. -/
def Obligations.UndefineFreesTheChannels : Prop :=
  ∀ (s : State) (tag : Byte) (l : LeaseId), Takes s 0 tag (.undefine l) →
    exec .undefine s =
      .next (match s.leases[l].state with
        | .undefined => answered s 0 tag .notDefined []
        | .held => answered s 0 tag .busy []
        | .grace => answered s 0 tag .busy []
        | .lapsing => answered s 0 tag .busy []
        | .vacant =>
          answered
            { s with
              leases := s.leases.set l.val { s.leases[l] with state := .undefined, defn := none }
              channels := Vector.ofFn fun c : Fin 16 =>
                if s.inLease l c then { s.channels[c] with lease := none } else s.channels[c] }
            0 tag .ok [])

/-- An accepted CONFIGURE_CHANNEL writes park action, timing and halt group, drives the new park level, and sets or clears the mark
to match the new group at the taken levels; OK with an empty body. A channel of a HELD, GRACE or LAPSING lease is refused BUSY
(R88, R89, R120). -/
def Obligations.ConfigureChannelWritesTheRecord : Prop :=
  ∀ (s : State) (tag : Byte) (c : ChannelId) (a : ParkAction) (t : ParkTiming) (g : HaltGroup),
    Takes s 0 tag (.configureChannel c a t g) →
      ((∃ l : LeaseId, s.channels[c].lease = some l ∧ s.leases[l].state ≠ .undefined ∧ s.leases[l].state ≠ .vacant) →
        exec .configureChannel s = .next (answered s 0 tag .busy [])) ∧
      ((∀ l : LeaseId, s.channels[c].lease = some l → s.leases[l].state = .undefined ∨ s.leases[l].state = .vacant) →
        exec .configureChannel s =
          .next (answered
            { s with
              channels := s.channels.set c.val
                { s.channels[c] with
                  parkAction := a
                  parkTiming := t
                  haltGroup := g
                  halted := (groupHas g .h0 && s.haltTaken.h0) || (groupHas g .h1 && s.haltTaken.h1)
                  level := match a with
                    | .parkLow => .low
                    | .parkHigh => .high
                    | .parkFloat => .float
                    | .parkHold => s.channels[c].level } }
            0 tag .ok []))

/-- An accepted REVOKE of a HELD or GRACE lease, in a lawful state: every channel of the lease is parked at once, LAPSED with reason
REVOKED is told to the holder, and within the request the lease is handed to the queue head, with its TERM deadline and its GRANTED,
or goes VACANT with no deadline; a raised expiry is withdrawn and the slots are empty. Of a LAPSING lease likewise, with no notice to
the departing holder. OK with the state, the holder and the epoch then; nothing else changes, no other port's record or notices among
it. VACANT is refused NOT_HELD and UNDEFINED NOT_DEFINED (R33, R46, R61, R63, R64). -/
def Obligations.RevokeHandsTheLeaseOnAtOnce : Prop :=
  ∀ (s : State) (tag : Byte) (l : LeaseId), s.Lawful → Takes s 0 tag (.revoke l) →
    let parked : State :=
      { s with channels := Vector.ofFn fun c : Fin 16 =>
          if s.inLease l c then parkedAtOnce s.channels[c] else s.channels[c] }
    let body : List Byte :=
      [leaseStateCode (handedOn s.leases[l]).state, ownerCode (handedOn s.leases[l]).holder] ++
        wordBytes (handedOn s.leases[l]).epoch
    (s.leases[l].state = .undefined → exec .revoke s = .next (answered s 0 tag .notDefined [])) ∧
    (s.leases[l].state = .vacant → exec .revoke s = .next (answered s 0 tag .notHeld [])) ∧
    (s.leases[l].state = .lapsing → exec .revoke s = .next (answered (handedOver parked l) 0 tag .ok body)) ∧
    (s.leases[l].live = true → ∃ p : Port, s.leases[l].holder = some p ∧
      exec .revoke s = .next (answered (handedOver (parked.post p l (.lapsed .revoked)) l) 0 tag .ok body))

/-- RESET_LEASES: every defined lease becomes VACANT with its epoch and definition kept and no deadline, its raised expiry withdrawn,
its channels parked, its slots empty; LAPSED with reason RESET is posted to the holder of a HELD or GRACE lease and WAIT_CANCELLED to
each waiter, and nothing else to any port; UNDEFINED leases and channels of no defined lease are untouched; OK with the number of
defined leases. No other port's record, no other event, and neither now nor the halt levels change (R65). -/
def Obligations.ResetLeasesVacatesEveryLease : Prop :=
  ∀ (s : State) (tag : Byte), Takes s 0 tag .resetLeases →
    ∃ t : State, exec .resetLeases s = .next t ∧
      (∀ l : LeaseId, s.leases[l].state ≠ .undefined → t.leases[l] = vacantRecord s.leases[l] ∧ t.deadlines[l] = none) ∧
      (∀ l : LeaseId, s.leases[l].state = .undefined →
        t.leases[l] = s.leases[l] ∧ t.deadlines[l] = s.deadlines[l]) ∧
      (∀ c : ChannelId, (∃ l : LeaseId, s.leases[l].state ≠ .undefined ∧ s.inLease l c = true) →
        t.channels[c] = parkedAtOnce s.channels[c] ∧ t.slots[c] = none) ∧
      (∀ c : ChannelId, (∀ l : LeaseId, s.inLease l c = true → s.leases[l].state = .undefined) →
        t.channels[c] = s.channels[c] ∧ t.slots[c] = s.slots[c]) ∧
      (∀ (p : Port) (l : LeaseId),
        let told : Option Notice :=
          if s.leases[l].live = true ∧ s.leases[l].holder = some p then posted s.notices[p][l] (.lapsed .reset)
          else s.notices[p][l]
        t.notices[p][l] =
          if s.leases[l].state ≠ .undefined ∧ (s.leases[l].queue.any fun w => w.port == p) = true then posted told .waitCancelled
          else told) ∧
      AttnAfterPosts s t ∧
      t.events =
        (if ∃ l : LeaseId, s.leases[l].state ≠ .undefined then
          withoutEvents (fun e => leaseIds.any fun l => s.leases[l].state != .undefined && e.isExpiryOf l) s.events
        else s.events) ∧
      t.ports =
        s.ports.set 0
          { s.ports[(0 : Port)] with
            request := none
            response := .ready
              { status := .ok
                tag := tag
                body := [BitVec.ofNat 8 (leaseIds.filter fun l => s.leases[l].state != .undefined).length] } } ∧
      t.arbiter = 0 ∧ t.now = s.now ∧ t.haltTaken = s.haltTaken ∧ t.haltSampled = s.haltSampled ∧ t.pending = s.pending

/-! ### Claiming and giving up -/

/-- R28: ACQUIRE of a defined lease with a term in its bounds is decided by the state at the take: VACANT is granted at once with
OK and the new epoch; else the holder is refused ALREADY_HOLDER, a waiter ALREADY_WAITING, any other port is queued at the tail
with its position if wait is 1 and refused BUSY if wait is 0. A term out of bounds is refused BAD_FIELD and an UNDEFINED lease
NOT_DEFINED (R27). -/
def Obligations.AcquireFollowsItsTable : Prop :=
  ∀ (s : State) (p : Port) (tag : Byte) (l : LeaseId) (term : Word16) (wait : Bool),
    Takes s p tag (.acquire l term wait) →
      exec .acquire s =
        .next
          (if s.leases[l].state = .undefined then answered s p tag .notDefined []
          else if s.leases[l].termWithin term = false then answered s p tag .badField []
          else if s.leases[l].state = .vacant then
            answered (s.grant l p term) p tag .ok (wordBytes (successor s.leases[l].epoch))
          else if s.leases[l].heldBy p = true then answered s p tag .alreadyHolder []
          else if (s.leases[l].queue.any fun w => w.port == p) = true then answered s p tag .alreadyWaiting []
          else if wait = true then
            answered
              { s with
                leases := s.leases.set l.val
                  { s.leases[l] with queue := s.leases[l].queue ++ [{ port := p, term := term }] } }
              p tag .queued [BitVec.ofNat 8 (s.leases[l].queue.length + 1)]
          else answered s p tag .busy [])

/-- R31: WITHDRAW of a defined lease removes the requester's entry, the others keeping their order, and is answered OK; with no
entry it is refused NOT_WAITING. Nothing else changes. -/
def Obligations.WithdrawRemovesTheEntry : Prop :=
  ∀ (s : State) (p : Port) (tag : Byte) (l : LeaseId), Takes s p tag (.withdraw l) →
    exec .withdraw s =
      .next
        (if s.leases[l].state = .undefined then answered s p tag .notDefined []
        else if (s.leases[l].queue.any fun w => w.port == p) = true then
          answered
            { s with
              leases := s.leases.set l.val
                { s.leases[l] with queue := s.leases[l].queue.filter fun w => w.port != p } }
            p tag .ok []
        else answered s p tag .notWaiting [])

/-- R50: an accepted RENEW sets the term (0 keeps it) and a TERM deadline at now plus the term in force, withdraws a raised expiry,
and leaves the lease HELD: OK from HELD, OK_LATE from GRACE, with the term in force; nothing else changes. Past the holder checks, a
new term other than 0 outside the lease's term bounds is refused BAD_FIELD, in HELD and in GRACE (R49). -/
def Obligations.RenewSetsTermAndDeadline : Prop :=
  (∀ (s : State) (p : Port) (tag : Byte) (l : LeaseId) (e newTerm term : Word16), Takes s p tag (.renew l e newTerm) →
    s.leases[l].state ≠ .undefined → MayAct s p l e true →
    (newTerm ≠ 0 ∧ s.leases[l].termWithin newTerm = true ∧ term = newTerm) ∨
      (newTerm = 0 ∧ s.leases[l].term = some term) →
      exec .renew s =
        .next (answered
          { s with
            leases := s.leases.set l.val { s.leases[l] with state := .held, term := some term }
            deadlines := s.deadlines.set l.val (some { kind := .term, tick := s.now + term.setWidth 32 })
            events := withdrawn s l }
          p tag (if s.leases[l].state = .grace then .okLate else .ok) (wordBytes term))) ∧
    ∀ (s : State) (p : Port) (tag : Byte) (l : LeaseId) (e newTerm : Word16) (d : LeaseDef),
      Takes s p tag (.renew l e newTerm) → MayAct s p l e true → s.leases[l].defn = some d → newTerm ≠ 0 →
        newTerm < d.termMin ∨ d.termMax < newTerm → exec .renew s = .next (answered s p tag .badField [])

/-- An accepted TRANSFER removes the target's entry and grants the lease to it with the entry's term, without a lapse: no channel
changes; OK with the target and the new epoch. With a pending commit it is refused COMMIT_PENDING, and with no such entry
NOT_WAITING (R38, R39). -/
def Obligations.TransferGrantsToTheTarget : Prop :=
  ∀ (s : State) (p : Port) (tag : Byte) (l : LeaseId) (e : Word16) (target : Target), Takes s p tag (.transfer l e target) →
    MayAct s p l e false →
      (s.leases[l].commitPending = true → exec .transfer s = .next (answered s p tag .commitPending [])) ∧
      (s.leases[l].commitPending = false →
        (∀ w : Waiter, target = .next → s.leases[l].queue.head? = some w →
          exec .transfer s =
            .next (answered
              (State.grant (withQueue s l (s.leases[l].queue.filter fun x => x.port != w.port)) l w.port w.term)
              p tag .ok (ownerCode (some w.port) :: wordBytes (successor s.leases[l].epoch)))) ∧
        (∀ w : Waiter, target = .port w.port → s.leases[l].queue.find? (fun x => x.port == w.port) = some w →
          exec .transfer s =
            .next (answered
              (State.grant (withQueue s l (s.leases[l].queue.filter fun x => x.port != w.port)) l w.port w.term)
              p tag .ok (ownerCode (some w.port) :: wordBytes (successor s.leases[l].epoch)))) ∧
        ((target = .next ∧ s.leases[l].queue = []) ∨
            (∃ q : Port, target = .port q ∧ ∀ w ∈ s.leases[l].queue, w.port ≠ q) →
          exec .transfer s = .next (answered s p tag .notWaiting [])))

/-- An accepted RELEASE, in a lawful state, lapses the lease with reason RELEASED, parks its channels by their park timing, clears the
deadline and withdraws a raised expiry, empties the slots, and answers OK with the number of channels its start left PARKING: those
that were RUNNING with park timing AT_PERIOD_END. If there are none, the lease is handed on at once: to the queue head, with its TERM
deadline and its GRANTED, or to VACANT. The old holder is told nothing, and nothing else changes (R33, R46, R55, R56, R57, R61,
R62). -/
def Obligations.ReleaseLapsesTheLease : Prop :=
  ∀ (s : State) (p : Port) (tag : Byte) (l : LeaseId) (e : Word16), s.Lawful → Takes s p tag (.release l e) →
    MayAct s p l e true →
      let lapsed : State :=
        { s with channels := Vector.ofFn fun c : Fin 16 =>
            if s.inLease l c then lapsedChannel s.channels[c] .released else s.channels[c] }
      exec .release s =
        .next (answered
          (if LeavesParking s l .released then
            { lapsed with
              leases := s.leases.set l.val (lapsingRecord s.leases[l] .released)
              deadlines := s.deadlines.set l.val none
              events := withdrawn s l
              slots := purgedSlots s l }
          else handedOver lapsed l)
          p tag .ok
          [BitVec.ofNat 8 (channelIds.filter fun c =>
            s.inLease l c && s.channels[c].state == .running && s.channels[c].parkTiming == .atPeriodEnd).length])

/-! ### Outputs -/

/-- R94: an accepted STAGE writes the set, tagged with the current epoch, into the channel's slot, and reports whether it replaced
one; it changes nothing else. -/
def Obligations.StageWritesTheSlot : Prop :=
  ∀ (s : State) (p : Port) (tag : Byte) (l : LeaseId) (e : Word16) (c : ChannelId) (ps : ParamSet),
    Takes s p tag (.stage l e c ps) → MayAct s p l e false → s.inLease l c = true → s.leases[l].commitPending = false →
      exec .stage s =
        .next (answered
          { s with slots := s.slots.set c.val (some { params := ps, tag := s.leases[l].epoch }) }
          p tag .ok [if s.slots[c].isSome then 1 else 0])

/-- An accepted DISCARD empties the channel's slot and reports whether it held a set; it changes nothing else. STAGE and DISCARD of
a channel outside the lease are refused BAD_FIELD, and while a commit is pending COMMIT_PENDING (R93, R95). -/
def Obligations.DiscardEmptiesTheSlot : Prop :=
  (∀ (s : State) (p : Port) (tag : Byte) (l : LeaseId) (e : Word16) (c : ChannelId),
    Takes s p tag (.discard l e c) → s.leases[l].state ≠ .undefined → MayAct s p l e true →
      (s.inLease l c = true → s.leases[l].commitPending = false →
        exec .discard s =
          .next (answered { s with slots := s.slots.set c.val none } p tag .ok [if s.slots[c].isSome then 1 else 0])) ∧
      (s.inLease l c = false → exec .discard s = .next (answered s p tag .badField [])) ∧
      (s.inLease l c = true → s.leases[l].commitPending = true →
        exec .discard s = .next (answered s p tag .commitPending []))) ∧
    ∀ (s : State) (p : Port) (tag : Byte) (l : LeaseId) (e : Word16) (c : ChannelId) (ps : ParamSet),
      Takes s p tag (.stage l e c ps) → MayAct s p l e false →
        (s.inLease l c = false → exec .stage s = .next (answered s p tag .badField [])) ∧
        (s.inLease l c = true → s.leases[l].commitPending = true →
          exec .stage s = .next (answered s p tag .commitPending []))

/-- COMMIT past the holder checks: refused COMMIT_PENDING, NOTHING_STAGED or HALTED in that order; else pending where the lead is
RUNNING, and executed at once otherwise; OK with the outcome and the number of staged channels (R96, R97). -/
def Obligations.CommitIsPendingOrExecutes : Prop :=
  ∀ (s : State) (p : Port) (tag : Byte) (l : LeaseId) (e : Word16) (d : LeaseDef) (staged : Nat),
    Takes s p tag (.commit l e) → MayAct s p l e false → s.leases[l].defn = some d →
      staged = (channelIds.filter fun c => s.inLease l c && s.slots[c].isSome).length →
        exec .commit s =
          .next
            (if s.leases[l].commitPending = true then answered s p tag .commitPending []
            else if staged = 0 then answered s p tag .nothingStaged []
            else if ∃ c : ChannelId, s.inLease l c = true ∧ s.channels[c].halted = true then answered s p tag .halted []
            else if s.channels[d.lead].state = .running then
              answered
                { s with leases := s.leases.set l.val { s.leases[l] with commitPending := true } }
                p tag .ok [1, BitVec.ofNat 8 staged]
            else answered (s.executeCommit l) p tag .ok [0, BitVec.ofNat 8 staged])

/-- RESUME past the holder checks: refused COMMIT_PENDING, or HALTED where a channel it would start is halted; else every PARKED or
ENDED channel of the lease with an active set starts on it, and nothing else changes; OK with the number started (R108, R109). -/
def Obligations.ResumeStartsStoppedChannels : Prop :=
  ∀ (s : State) (p : Port) (tag : Byte) (l : LeaseId) (e : Word16),
    Takes s p tag (.resume l e) → MayAct s p l e false →
      let starts : ChannelId → Bool := fun c =>
        s.inLease l c && (s.channels[c].state == .parked || s.channels[c].state == .ended) && s.channels[c].active.isSome
      exec .resume s =
        .next
          (if s.leases[l].commitPending = true then answered s p tag .commitPending []
          else if ∃ c : ChannelId, starts c = true ∧ s.channels[c].halted = true then answered s p tag .halted []
          else
            answered
              { s with
                channels := Vector.ofFn fun c : Fin 16 =>
                  match s.channels[c].active with
                  | some ps => if starts c then startedOn s.channels[c] ps else s.channels[c]
                  | none => s.channels[c] }
              p tag .ok [BitVec.ofNat 8 (channelIds.filter starts).length])

/-- PARK past the holder checks: refused BAD_FIELD unless the set is a subset of the lease's; else every listed channel parks at
once, and a pending commit executes if the lead is listed; OK with the number moved to PARKED and whether a commit executed (R102,
R110, R111). -/
def Obligations.ParkParksTheListedChannels : Prop :=
  ∀ (s : State) (p : Port) (tag : Byte) (l : LeaseId) (e : Word16) (set : ChannelSet) (d : LeaseDef),
    Takes s p tag (.park l e set) → s.leases[l].state ≠ .undefined → MayAct s p l e true → s.leases[l].defn = some d →
      let parkedState : State :=
        { s with channels := Vector.ofFn fun c : Fin 16 =>
            if set.getLsbD c.val then parkedAtOnce s.channels[c] else s.channels[c] }
      let moved : Byte :=
        BitVec.ofNat 8 (channelIds.filter fun c => set.getLsbD c.val && s.channels[c].state != .parked).length
      exec .park s =
        .next
          (if ∃ c : ChannelId, set.getLsbD c.val = true ∧ s.inLease l c = false then answered s p tag .badField []
          else if s.leases[l].commitPending = true ∧ set.getLsbD d.lead.val = true then
            answered (parkedState.executeCommit l) p tag .ok [moved, 1]
          else answered parkedState p tag .ok [moved, 0])

/-! ### Notices and lookups -/

/-- R146: READ_NOTICES returns the requester's records of the lowest eight leases in increasing number, and removes exactly them;
ATTN is released if the set is then empty; OK with the number returned, the number left, and the records. The records
are laid out with the kind bits and reason codes of R165. -/
def Obligations.ReadNoticesReturnsTheLowestEight : Prop :=
  ∀ (s : State) (p : Port) (tag : Byte), Takes s p tag .readNotices →
    let present : List LeaseId := leaseIds.filter fun l => s.notices[p][l].isSome
    let returned : List LeaseId := present.take 8
    exec .readNotices s =
      .next (answered
        { s with
          notices := s.notices.set p.val (Vector.ofFn fun l : Fin 16 => if l ∈ returned then none else s.notices[p][l])
          attn := if present.length ≤ 8 then s.attn.set p.val false else s.attn }
        p tag .ok
        ([BitVec.ofNat 8 returned.length, BitVec.ofNat 8 (present.length - returned.length)] ++
          returned.flatMap fun l => (s.notices[p][l].toList.flatMap fun n =>
            [BitVec.ofNat 8 l.val] ++ wordBytes (kindsWord n.kinds) ++ wordBytes (n.grantEpoch.getD 0) ++
              [reasonCode n.lastReason])))

/-- The lookups are answered OK from any port, QUERY_LEASE of an UNDEFINED lease included, and change nothing but the answering
port's slots and the pointer (R21, R152). -/
def Obligations.LookupsChangeNothing : Prop :=
  (∀ (s : State) (p : Port) (tag : Byte) (l : LeaseId), Takes s p tag (.queryLease l) →
      exec .queryLease s = .next (answered s p tag .ok (s.leaseBody l))) ∧
    (∀ (s : State) (p : Port) (tag : Byte) (c : ChannelId), Takes s p tag (.queryChannel c) →
      exec .queryChannel s = .next (answered s p tag .ok (s.channelBody c))) ∧
    ∀ (s : State) (p : Port) (tag : Byte), Takes s p tag .queryDevice →
      exec .queryDevice s = .next (answered s p tag .ok s.deviceBody)

/-- In a lawful state the QUERY_LEASE body is 33 bytes, and its fields stand at the offsets and in the codes of R166: state, holder, flags,
epoch, deadline kind and ticks remaining (0 once the expiry waits), term, bounds, grace, channel set, lead, reason, and queue count. -/
def Obligations.LeaseBodyFollowsItsLayout : Prop :=
  ∀ (s : State) (l : LeaseId), s.Lawful →
    (s.leaseBody l).length = 33 ∧
      (s.leaseBody l)[0]? = some (leaseStateCode s.leases[l].state) ∧
      (s.leaseBody l)[1]? = some (ownerCode s.leases[l].holder) ∧
      (∃ f : Byte, (s.leaseBody l)[2]? = some f ∧ f.getLsbD 0 = s.leases[l].departing ∧
        f.getLsbD 1 = s.leases[l].commitPending ∧ f.getLsbD 2 = (s.leases[l].state != .undefined) ∧ f.toNat < 8) ∧
      ((s.leaseBody l).drop 3).take 2 = wordBytes s.leases[l].epoch ∧
      (s.deadlines[l] = none → ((s.leaseBody l).drop 5).take 3 = [0, 0, 0]) ∧
      (∀ d : Deadline, s.deadlines[l] = some d →
        (s.leaseBody l)[5]? = some (if d.kind = .term then 1 else 2) ∧
          (s.expiryWaits l = true → ((s.leaseBody l).drop 6).take 2 = [0, 0]) ∧
          (s.expiryWaits l = false → ∃ w : Word16, ((s.leaseBody l).drop 6).take 2 = wordBytes w ∧
            w.toNat = (d.tick - s.now).toNat ∧ w.toNat ≤ 30000)) ∧
      ((s.leaseBody l).drop 8).take 2 = wordBytes (s.leases[l].term.getD 0) ∧
      (s.leases[l].defn = none → ((s.leaseBody l).drop 10).take 9 = List.replicate 9 0) ∧
      (∀ d : LeaseDef, s.leases[l].defn = some d →
        ((s.leaseBody l).drop 10).take 9 =
          wordBytes d.termMin ++ wordBytes d.termMax ++ wordBytes d.grace ++ wordBytes d.channels ++
            [BitVec.ofNat 8 d.lead.val]) ∧
      (s.leaseBody l)[19]? = some (reasonCode s.leases[l].reason) ∧
      (s.leaseBody l)[20]? = some (BitVec.ofNat 8 s.leases[l].queue.length) ∧
      ∀ i : Nat, i < 4 →
        ((s.leaseBody l).drop (21 + 3 * i)).take 3 =
          match s.leases[l].queue[i]? with
          | some w => BitVec.ofNat 8 w.port.val :: wordBytes w.term
          | none => [0xFF, 0, 0]

/-- The QUERY_CHANNEL body is 22 bytes and the QUERY_DEVICE body 15, with their fields at the offsets and in the codes of
R167 (park configuration and halt group as R161 codes them, the active set as R162 does). -/
def Obligations.ChannelAndDeviceBodiesFollowTheirLayouts : Prop :=
  (∀ (s : State) (c : ChannelId),
      (s.channelBody c).length = 22 ∧
        (s.channelBody c).take 6 =
          [channelStateCode s.channels[c].state, ownerCode s.channels[c].lease, parkActionCode s.channels[c].parkAction,
            if s.channels[c].parkTiming = .atOnce then 0 else 1, haltGroupCode s.channels[c].haltGroup,
            if s.channels[c].halted then 1 else 0] ∧
        (s.channels[c].active = none → ((s.channelBody c).drop 6).take 10 = List.replicate 10 0) ∧
        (∀ ps : ParamSet, s.channels[c].active = some ps →
          ∃ k : Nat, ps.divider.periods = 2 ^ k ∧
            ((s.channelBody c).drop 6).take 10 =
              [1, modeCode ps.mode, BitVec.ofNat 8 k] ++ wordBytes ps.period ++ wordBytes ps.width ++ wordBytes ps.phase ++
                [if ps.polarity = .activeHigh then 0 else 1]) ∧
        (s.slots[c] = none → ((s.channelBody c).drop 16).take 3 = [0, 0, 0]) ∧
        (∀ x : StagedSet, s.slots[c] = some x → ((s.channelBody c).drop 16).take 3 = 1 :: wordBytes x.tag) ∧
        (s.channelBody c).drop 19 = wordBytes s.channels[c].counter ++ [if s.channels[c].direction = .up then 0 else 1]) ∧
    ∀ s : State,
      s.deviceBody.length = 15 ∧ s.deviceBody.take 3 = [0x16, 0x04, 0x01] ∧
        (s.deviceBody.drop 3).take 4 =
          [s.now.extractLsb' 24 8, s.now.extractLsb' 16 8, s.now.extractLsb' 8 8, s.now.extractLsb' 0 8] ∧
        (∀ p : Port, s.deviceBody[7 + p.val]? = some (presenceCode s.ports[p].presence)) ∧
        s.deviceBody[11]? = some (if s.haltTaken.h0 then 1 else 0) ∧
        s.deviceBody[12]? = some (if s.haltTaken.h1 then 1 else 0) ∧
        ∃ w : Word16, s.deviceBody.drop 13 = wordBytes w ∧
          ∀ l : LeaseId, w.getLsbD l.val = (s.leases[l].state != .undefined)

/-! ### Answers and refusals -/

/-- A taken request whose code is none of the nineteen is answered UNKNOWN_REQUEST, and one of a known code whose body is not the
layout of a request in range is answered BAD_FIELD; nothing but the port's slots and the pointer changes (R21, R160, R161). -/
def Obligations.MalformedRequestsAreAnsweredSo : Prop :=
  ∀ (s : State) (p : Port) (r : Request), s.nextRequest = some (p, r) →
    ((∀ k : ReqCode, requestCode k ≠ r.code) → exec .unknownRequest s = .next (answered s p r.tag .unknownRequest [])) ∧
      ∀ k : ReqCode, r.code = requestCode k → (∀ q : HostRequest, q.code = k → q.inRange = true → q.body ≠ r.body) →
        exec k.command s = .next (answered s p r.tag .badField [])

/-- The arbiter hands over the request of the first port, searched from the one after its pointer round to the pointer's own, whose
request slot holds one, and nothing where no slot does (R132; which requests one search includes: log 12). Whatever request it hands
over, the take of its code answers it: its slot is emptied, its response slot is READY under its tag, the pointer names its port, and
no other port's record changes (R131, R132). -/
def Obligations.EveryTakenRequestIsAnswered : Prop :=
  (∀ (s : State) (p : Port) (r : Request),
      s.nextRequest = some (p, r) ↔
        s.ports[p].request = some r ∧
          ∀ q : Port, searchedBefore s.arbiter q < searchedBefore s.arbiter p → s.ports[q].request = none) ∧
    (∀ s : State, s.nextRequest = none ↔ ∀ q : Port, s.ports[q].request = none) ∧
    ∀ (s : State) (p : Port) (r : Request), s.nextRequest = some (p, r) →
      ∃ (c : Instr) (t : State) (st : Status) (body : List Byte),
        (c = .unknownRequest ∨ ∃ k : ReqCode, r.code = requestCode k ∧ c = k.command) ∧ exec c s = .next t ∧ t.arbiter = p ∧
          t.ports =
            s.ports.set p.val
              { s.ports[p] with request := none, response := .ready { status := st, tag := r.tag, body := body } }

/-- A supervisor request from a port other than P0 is refused NOT_SUPERVISOR whatever the state of the part (R21, R140), and the
holder requests are checked in the order of R21 and R22: NOT_DEFINED, NOT_HOLDER, STALE, IN_GRACE. The first check that fails
answers, and nothing but the port's slots and the pointer changes. -/
def Obligations.CommonChecksAnswerInOrder : Prop :=
  (∀ (s : State) (p : Port) (tag : Byte) (q : HostRequest), Takes s p tag q → supervisorRequest q = true → p ≠ 0 →
      exec q.code.command s = .next (answered s p tag .notSupervisor [])) ∧
    ∀ (s : State) (p : Port) (tag : Byte) (q : HostRequest) (l : LeaseId) (e : Word16) (inGrace : Bool),
      Takes s p tag q → holderFields q = some (l, e, inGrace) →
        (s.leases[l].state = .undefined → exec q.code.command s = .next (answered s p tag .notDefined [])) ∧
        (s.leases[l].state ≠ .undefined → s.leases[l].heldBy p = false →
          exec q.code.command s = .next (answered s p tag .notHolder [])) ∧
        (s.leases[l].heldBy p = true → s.leases[l].epoch ≠ e →
          exec q.code.command s = .next (answered s p tag .stale [])) ∧
        (s.leases[l].heldBy p = true → s.leases[l].epoch = e → s.leases[l].state = .grace → inGrace = false →
          exec q.code.command s = .next (answered s p tag .inGrace []))

/-- R23: a request answered with a refusal leaves the part as it found it: only the requester's slots and the arbiter's pointer
change, and the response has the tag and an empty body. -/
def Obligations.RefusedRequestsLeaveThePart : Prop :=
  ∀ (s t : State) (k : ReqCode) (p : Port) (r : Request) (a : Response), NextIs s k p r → exec k.command s = .next t →
    t.ports[p].response = .ready a → a.status ≠ .ok → a.status ≠ .okLate → a.status ≠ .queued →
      t = answered s p r.tag a.status []

/-! ### Shared operations -/

/-- R144: a post creates the port's record for the lease if there is none, adds the kind, for GRANTED replaces the grant epoch, for
LAPSED replaces the last reason, and asserts ATTN if the set was empty; nothing else changes. -/
def Obligations.PostsJoinTheRecord : Prop :=
  ∀ (s : State) (p : Port) (l : LeaseId) (k : Post), ∃ n : Notice,
    s.post p l k =
        { s with
          notices := s.notices.set p.val (s.notices[p].set l.val (some n))
          attn := if ∀ l' : LeaseId, s.notices[p][l'] = none then s.attn.set p.val true else s.attn } ∧
      (∀ k' : NoticeKind, n.kinds.has k' = true ↔
        k' = k.kind ∨ ∃ m : Notice, s.notices[p][l] = some m ∧ m.kinds.has k' = true) ∧
      (∀ e : Word16, k = .granted e → n.grantEpoch = some e) ∧
      ((∀ e : Word16, k ≠ .granted e) → n.grantEpoch = s.notices[p][l].bind Notice.grantEpoch) ∧
      (∀ r : LapseReason, k = .lapsed r → n.lastReason = some r) ∧
      ((∀ r : LapseReason, k ≠ .lapsed r) → n.lastReason = s.notices[p][l].bind Notice.lastReason)

/-- A grant gives the lease the next epoch, the port, the term, HELD and a TERM deadline, empties its staging slots and tells the new
holder GRANTED with the new epoch; no channel changes (R33, R34). -/
def Obligations.GrantHandsTheLeaseOver : Prop :=
  ∀ (s : State) (l : LeaseId) (p : Port) (term : Word16),
    s.grant l p term =
      State.post
        { s with
          leases := s.leases.set l.val (grantedRecord s.leases[l] p term s.leases[l].queue)
          deadlines := s.deadlines.set l.val (some { kind := .term, tick := s.now + term.setWidth 32 })
          events := withdrawn s l
          slots := purgedSlots s l }
        p l (.granted (successor s.leases[l].epoch))

/-- A lapse start makes the lease LAPSING with the holder departing, clears the deadline and a raised expiry, cancels a pending
commit, purges the slots, parks the channels by R56, and tells the holder LAPSED for reasons EXPIRED and REVOKED; the lapse
completes in the same take if no channel of the lease is PARKING: granted to the queue head, or VACANT (R55 to R57, R61). -/
def Obligations.LapseStartsAndCompletes : Prop :=
  (∀ (s : State) (l : LeaseId) (p : Port) (reason : LapseReason), s.leases[l].holder = some p → reason ≠ .reset →
      let started : State :=
        { s with
          leases := s.leases.set l.val (lapsingRecord s.leases[l] reason)
          deadlines := s.deadlines.set l.val none
          events := withdrawn s l
          slots := purgedSlots s l
          channels := Vector.ofFn fun c : Fin 16 =>
            if s.inLease l c then lapsedChannel s.channels[c] reason else s.channels[c] }
      s.lapseStart l reason =
        if reason = .expired ∨ reason = .revoked then started.post p l (.lapsed reason) else started) ∧
    (∀ (s : State) (l : LeaseId) (reason : LapseReason), s.lapse l reason = (s.lapseStart l reason).completeIfParked l) ∧
    (∀ (s : State) (l : LeaseId), s.leases[l].state = .lapsing → s.leases[l].commitPending = false →
      (∀ c : ChannelId, s.inLease l c = true → s.channels[c].state ≠ .parking) →
        (s.leases[l].queue = [] →
          s.completeIfParked l =
            { s with
              leases := s.leases.set l.val (vacantRecord s.leases[l])
              deadlines := s.deadlines.set l.val none
              events := withdrawn s l
              slots := purgedSlots s l }) ∧
        ∀ (w : Waiter) (rest : List Waiter), s.leases[l].queue = w :: rest →
          s.completeIfParked l =
            State.post
              { s with
                leases := s.leases.set l.val (grantedRecord s.leases[l] w.port w.term rest)
                deadlines := s.deadlines.set l.val (some { kind := .term, tick := s.now + w.term.setWidth 32 })
                events := withdrawn s l
                slots := purgedSlots s l }
              w.port l (.granted (successor s.leases[l].epoch))) ∧
    ∀ (s : State) (l : LeaseId),
      (s.leases[l].state ≠ .lapsing ∨ ∃ c : ChannelId, s.inLease l c = true ∧ s.channels[c].state = .parking) →
        s.completeIfParked l = s

/-- The execution of a commit: every channel of the lease with a staged set takes it as its active set and starts, all at once; the
slots it took are empty; commit pending is no; COMMITTED is told to the holder; channels without a staged set are untouched
(R99). -/
def Obligations.CommitExecutionStartsTheGroup : Prop :=
  ∀ (s : State) (l : LeaseId) (p : Port), s.leases[l].holder = some p →
    s.executeCommit l =
      State.post
        { s with
          leases := s.leases.set l.val { s.leases[l] with commitPending := false }
          slots := purgedSlots s l
          channels := Vector.ofFn fun c : Fin 16 =>
            match s.slots[c] with
            | some x =>
              if s.inLease l c then { startedOn s.channels[c] x.params with active := some x.params } else s.channels[c]
            | none => s.channels[c] }
        p l .committed

/-! ### Laws of the whole machine -/

/-- Every step keeps the laws of the lease table and the deadlines: field presence by state, values in bounds, at most one entry per
port and none for the holder, channels in at most one lease, deadlines by state and in bounds (R3, R4, R5, R25, R48, R69). -/
def Obligations.StepsKeepTheLeaseTableLaws : Prop :=
  ∀ s t : State, s.Lawful → step s = .next t → t.recordLaw ∧ t.tieLaw ∧ t.deadlineLaw

/-- Every step keeps the laws of the outputs: parking channels, channels outside live leases, generation and park levels, holds,
the staging law, the pending-commit law and the halt law (R58, R70, R80, R87, R92, R98, R119). -/
def Obligations.StepsKeepTheOutputLaws : Prop :=
  ∀ s t : State, s.Lawful → step s = .next t →
    t.parkingLaw ∧ t.outsideLaw ∧ t.channelLaw ∧ t.holdLaw ∧ t.stagingLaw ∧ t.pendingLaw ∧ t.haltLaw

/-- Every step keeps the laws of the ports, the notices and the events: slots, absent ports, ATTN asserted exactly while notices
wait, notice records, and raised events that find what they are raised for (R46, R113, R123, R135, R137, R143, R150). -/
def Obligations.StepsKeepThePortLaws : Prop :=
  ∀ s t : State, s.Lawful → step s = .next t → t.portLaw ∧ t.absentLaw ∧ t.attnLaw ∧ t.noticeLaw ∧ t.eventLaw

/-- A halted channel stays PARKED through every run of the part: from a lawful state, after any number of steps, every channel whose
halt group has an ASSERTED line is PARKED (R119). -/
def Obligations.HaltedChannelsStayParkedInEveryRun : Prop :=
  ∀ (n : Nat) (s t : State) (c : ChannelId) (line : HaltLine), s.Lawful → core.run n s = .next t →
    groupHas t.channels[c].haltGroup line = true → t.haltTaken.get line = true →
      t.channels[c].state = .parked ∧ t.channels[c].halted = true

/-- No command but DEVICE_RESET moves an epoch otherwise than to its successor, once; and no lease that has been granted shows epoch
0 again without it (R14, R16). -/
def Obligations.EpochsOnlyAdvance : Prop :=
  ∀ (c : Instr) (s t : State) (l : LeaseId), (∀ pins : Pins, c ≠ .deviceReset pins) → exec c s = .next t →
    (t.leases[l].epoch = s.leases[l].epoch ∨ t.leases[l].epoch = successor s.leases[l].epoch) ∧
      (s.leases[l].epoch ≠ 0 → t.leases[l].epoch ≠ 0)

/-- No request of a host other than the holder and the supervisor touches a held lease's outputs: in a lawful state, the record but
for its queue, the deadline, the channels and the staging slots of a HELD or GRACE lease are unchanged by it (R22, R141). -/
def Obligations.OtherHostsCannotTouchAHeldLease : Prop :=
  ∀ (s t : State) (k : ReqCode) (p : Port) (r : Request) (l : LeaseId), s.Lawful → NextIs s k p r → p ≠ 0 →
    s.leases[l].live = true → s.leases[l].heldBy p = false → exec k.command s = .next t →
      t.leases[l] = { s.leases[l] with queue := t.leases[l].queue } ∧ t.deadlines[l] = s.deadlines[l] ∧
        ∀ c : ChannelId, s.inLease l c = true → t.channels[c] = s.channels[c] ∧ t.slots[c] = s.slots[c]
end

