-- ==== Sys2Proof/Laws/State.lean ====
section
/-! SUPPORT. One lemma per field per update of the state, and what a replaced record reads as. -/

namespace Sys2Proof.Machine

/-! ### `modLease` -/

@[simp] theorem State.modLease_now (s : State) (l : LeaseId) (f : Lease → Lease) : (s.modLease l f).now = s.now := rfl
@[simp] theorem State.modLease_leases (s : State) (l : LeaseId) (f : Lease → Lease) :
    (s.modLease l f).leases = s.leases.set l.val (f s.leases[l]) := rfl
@[simp] theorem State.modLease_deadlines (s : State) (l : LeaseId) (f : Lease → Lease) :
    (s.modLease l f).deadlines = s.deadlines := rfl
@[simp] theorem State.modLease_slots (s : State) (l : LeaseId) (f : Lease → Lease) : (s.modLease l f).slots = s.slots := rfl
@[simp] theorem State.modLease_channels (s : State) (l : LeaseId) (f : Lease → Lease) :
    (s.modLease l f).channels = s.channels := rfl
@[simp] theorem State.modLease_haltTaken (s : State) (l : LeaseId) (f : Lease → Lease) :
    (s.modLease l f).haltTaken = s.haltTaken := rfl
@[simp] theorem State.modLease_haltSampled (s : State) (l : LeaseId) (f : Lease → Lease) :
    (s.modLease l f).haltSampled = s.haltSampled := rfl
@[simp] theorem State.modLease_ports (s : State) (l : LeaseId) (f : Lease → Lease) : (s.modLease l f).ports = s.ports := rfl
@[simp] theorem State.modLease_arbiter (s : State) (l : LeaseId) (f : Lease → Lease) :
    (s.modLease l f).arbiter = s.arbiter := rfl
@[simp] theorem State.modLease_notices (s : State) (l : LeaseId) (f : Lease → Lease) :
    (s.modLease l f).notices = s.notices := rfl
@[simp] theorem State.modLease_attn (s : State) (l : LeaseId) (f : Lease → Lease) : (s.modLease l f).attn = s.attn := rfl
@[simp] theorem State.modLease_events (s : State) (l : LeaseId) (f : Lease → Lease) :
    (s.modLease l f).events = s.events := rfl
@[simp] theorem State.modLease_pending (s : State) (l : LeaseId) (f : Lease → Lease) :
    (s.modLease l f).pending = s.pending := rfl

/-! ### `modChannel` -/

@[simp] theorem State.modChannel_now (s : State) (c : ChannelId) (f : Channel → Channel) :
    (s.modChannel c f).now = s.now := rfl
@[simp] theorem State.modChannel_leases (s : State) (c : ChannelId) (f : Channel → Channel) :
    (s.modChannel c f).leases = s.leases := rfl
@[simp] theorem State.modChannel_deadlines (s : State) (c : ChannelId) (f : Channel → Channel) :
    (s.modChannel c f).deadlines = s.deadlines := rfl
@[simp] theorem State.modChannel_slots (s : State) (c : ChannelId) (f : Channel → Channel) :
    (s.modChannel c f).slots = s.slots := rfl
@[simp] theorem State.modChannel_channels (s : State) (c : ChannelId) (f : Channel → Channel) :
    (s.modChannel c f).channels = s.channels.set c.val (f s.channels[c]) := rfl
@[simp] theorem State.modChannel_haltTaken (s : State) (c : ChannelId) (f : Channel → Channel) :
    (s.modChannel c f).haltTaken = s.haltTaken := rfl
@[simp] theorem State.modChannel_haltSampled (s : State) (c : ChannelId) (f : Channel → Channel) :
    (s.modChannel c f).haltSampled = s.haltSampled := rfl
@[simp] theorem State.modChannel_ports (s : State) (c : ChannelId) (f : Channel → Channel) :
    (s.modChannel c f).ports = s.ports := rfl
@[simp] theorem State.modChannel_arbiter (s : State) (c : ChannelId) (f : Channel → Channel) :
    (s.modChannel c f).arbiter = s.arbiter := rfl
@[simp] theorem State.modChannel_notices (s : State) (c : ChannelId) (f : Channel → Channel) :
    (s.modChannel c f).notices = s.notices := rfl
@[simp] theorem State.modChannel_attn (s : State) (c : ChannelId) (f : Channel → Channel) :
    (s.modChannel c f).attn = s.attn := rfl
@[simp] theorem State.modChannel_events (s : State) (c : ChannelId) (f : Channel → Channel) :
    (s.modChannel c f).events = s.events := rfl
@[simp] theorem State.modChannel_pending (s : State) (c : ChannelId) (f : Channel → Channel) :
    (s.modChannel c f).pending = s.pending := rfl

/-! ### `mapChannels` -/

@[simp] theorem State.mapChannels_now (s : State) (f : ChannelId → Channel → Channel) : (s.mapChannels f).now = s.now := by
  simp only [State.mapChannels]
@[simp] theorem State.mapChannels_leases (s : State) (f : ChannelId → Channel → Channel) :
    (s.mapChannels f).leases = s.leases := by
  simp only [State.mapChannels]
@[simp] theorem State.mapChannels_deadlines (s : State) (f : ChannelId → Channel → Channel) :
    (s.mapChannels f).deadlines = s.deadlines := by
  simp only [State.mapChannels]
@[simp] theorem State.mapChannels_slots (s : State) (f : ChannelId → Channel → Channel) :
    (s.mapChannels f).slots = s.slots := by
  simp only [State.mapChannels]
@[simp] theorem State.mapChannels_channels (s : State) (f : ChannelId → Channel → Channel) :
    (s.mapChannels f).channels = Vector.ofFn fun c => f c s.channels[c] := by
  simp only [State.mapChannels]
@[simp] theorem State.mapChannels_haltTaken (s : State) (f : ChannelId → Channel → Channel) :
    (s.mapChannels f).haltTaken = s.haltTaken := by
  simp only [State.mapChannels]
@[simp] theorem State.mapChannels_haltSampled (s : State) (f : ChannelId → Channel → Channel) :
    (s.mapChannels f).haltSampled = s.haltSampled := by
  simp only [State.mapChannels]
@[simp] theorem State.mapChannels_ports (s : State) (f : ChannelId → Channel → Channel) :
    (s.mapChannels f).ports = s.ports := by
  simp only [State.mapChannels]
@[simp] theorem State.mapChannels_arbiter (s : State) (f : ChannelId → Channel → Channel) :
    (s.mapChannels f).arbiter = s.arbiter := by
  simp only [State.mapChannels]
@[simp] theorem State.mapChannels_notices (s : State) (f : ChannelId → Channel → Channel) :
    (s.mapChannels f).notices = s.notices := by
  simp only [State.mapChannels]
@[simp] theorem State.mapChannels_attn (s : State) (f : ChannelId → Channel → Channel) :
    (s.mapChannels f).attn = s.attn := by
  simp only [State.mapChannels]
@[simp] theorem State.mapChannels_events (s : State) (f : ChannelId → Channel → Channel) :
    (s.mapChannels f).events = s.events := by
  simp only [State.mapChannels]
@[simp] theorem State.mapChannels_pending (s : State) (f : ChannelId → Channel → Channel) :
    (s.mapChannels f).pending = s.pending := by
  simp only [State.mapChannels]

/-! ### `setSlot` -/

@[simp] theorem State.setSlot_now (s : State) (c : ChannelId) (x : Option StagedSet) : (s.setSlot c x).now = s.now := rfl
@[simp] theorem State.setSlot_leases (s : State) (c : ChannelId) (x : Option StagedSet) :
    (s.setSlot c x).leases = s.leases := rfl
@[simp] theorem State.setSlot_deadlines (s : State) (c : ChannelId) (x : Option StagedSet) :
    (s.setSlot c x).deadlines = s.deadlines := rfl
@[simp] theorem State.setSlot_slots (s : State) (c : ChannelId) (x : Option StagedSet) :
    (s.setSlot c x).slots = s.slots.set c.val x := rfl
@[simp] theorem State.setSlot_channels (s : State) (c : ChannelId) (x : Option StagedSet) :
    (s.setSlot c x).channels = s.channels := rfl
@[simp] theorem State.setSlot_haltTaken (s : State) (c : ChannelId) (x : Option StagedSet) :
    (s.setSlot c x).haltTaken = s.haltTaken := rfl
@[simp] theorem State.setSlot_haltSampled (s : State) (c : ChannelId) (x : Option StagedSet) :
    (s.setSlot c x).haltSampled = s.haltSampled := rfl
@[simp] theorem State.setSlot_ports (s : State) (c : ChannelId) (x : Option StagedSet) :
    (s.setSlot c x).ports = s.ports := rfl
@[simp] theorem State.setSlot_arbiter (s : State) (c : ChannelId) (x : Option StagedSet) :
    (s.setSlot c x).arbiter = s.arbiter := rfl
@[simp] theorem State.setSlot_notices (s : State) (c : ChannelId) (x : Option StagedSet) :
    (s.setSlot c x).notices = s.notices := rfl
@[simp] theorem State.setSlot_attn (s : State) (c : ChannelId) (x : Option StagedSet) : (s.setSlot c x).attn = s.attn := rfl
@[simp] theorem State.setSlot_events (s : State) (c : ChannelId) (x : Option StagedSet) :
    (s.setSlot c x).events = s.events := rfl
@[simp] theorem State.setSlot_pending (s : State) (c : ChannelId) (x : Option StagedSet) :
    (s.setSlot c x).pending = s.pending := rfl

/-! ### `modPort` -/

@[simp] theorem State.modPort_now (s : State) (p : Port) (f : PortRecord → PortRecord) : (s.modPort p f).now = s.now := rfl
@[simp] theorem State.modPort_leases (s : State) (p : Port) (f : PortRecord → PortRecord) :
    (s.modPort p f).leases = s.leases := rfl
@[simp] theorem State.modPort_deadlines (s : State) (p : Port) (f : PortRecord → PortRecord) :
    (s.modPort p f).deadlines = s.deadlines := rfl
@[simp] theorem State.modPort_slots (s : State) (p : Port) (f : PortRecord → PortRecord) :
    (s.modPort p f).slots = s.slots := rfl
@[simp] theorem State.modPort_channels (s : State) (p : Port) (f : PortRecord → PortRecord) :
    (s.modPort p f).channels = s.channels := rfl
@[simp] theorem State.modPort_haltTaken (s : State) (p : Port) (f : PortRecord → PortRecord) :
    (s.modPort p f).haltTaken = s.haltTaken := rfl
@[simp] theorem State.modPort_haltSampled (s : State) (p : Port) (f : PortRecord → PortRecord) :
    (s.modPort p f).haltSampled = s.haltSampled := rfl
@[simp] theorem State.modPort_ports (s : State) (p : Port) (f : PortRecord → PortRecord) :
    (s.modPort p f).ports = s.ports.set p.val (f s.ports[p]) := rfl
@[simp] theorem State.modPort_arbiter (s : State) (p : Port) (f : PortRecord → PortRecord) :
    (s.modPort p f).arbiter = s.arbiter := rfl
@[simp] theorem State.modPort_notices (s : State) (p : Port) (f : PortRecord → PortRecord) :
    (s.modPort p f).notices = s.notices := rfl
@[simp] theorem State.modPort_attn (s : State) (p : Port) (f : PortRecord → PortRecord) :
    (s.modPort p f).attn = s.attn := rfl
@[simp] theorem State.modPort_events (s : State) (p : Port) (f : PortRecord → PortRecord) :
    (s.modPort p f).events = s.events := rfl
@[simp] theorem State.modPort_pending (s : State) (p : Port) (f : PortRecord → PortRecord) :
    (s.modPort p f).pending = s.pending := rfl

/-! ### `setDeadline` -/

@[simp] theorem State.setDeadline_now (s : State) (l : LeaseId) (d : Option Deadline) :
    (s.setDeadline l d).now = s.now := rfl
@[simp] theorem State.setDeadline_leases (s : State) (l : LeaseId) (d : Option Deadline) :
    (s.setDeadline l d).leases = s.leases := rfl
@[simp] theorem State.setDeadline_deadlines (s : State) (l : LeaseId) (d : Option Deadline) :
    (s.setDeadline l d).deadlines = s.deadlines.set l.val d := rfl
@[simp] theorem State.setDeadline_slots (s : State) (l : LeaseId) (d : Option Deadline) :
    (s.setDeadline l d).slots = s.slots := rfl
@[simp] theorem State.setDeadline_channels (s : State) (l : LeaseId) (d : Option Deadline) :
    (s.setDeadline l d).channels = s.channels := rfl
@[simp] theorem State.setDeadline_haltTaken (s : State) (l : LeaseId) (d : Option Deadline) :
    (s.setDeadline l d).haltTaken = s.haltTaken := rfl
@[simp] theorem State.setDeadline_haltSampled (s : State) (l : LeaseId) (d : Option Deadline) :
    (s.setDeadline l d).haltSampled = s.haltSampled := rfl
@[simp] theorem State.setDeadline_ports (s : State) (l : LeaseId) (d : Option Deadline) :
    (s.setDeadline l d).ports = s.ports := rfl
@[simp] theorem State.setDeadline_arbiter (s : State) (l : LeaseId) (d : Option Deadline) :
    (s.setDeadline l d).arbiter = s.arbiter := rfl
@[simp] theorem State.setDeadline_notices (s : State) (l : LeaseId) (d : Option Deadline) :
    (s.setDeadline l d).notices = s.notices := rfl
@[simp] theorem State.setDeadline_attn (s : State) (l : LeaseId) (d : Option Deadline) :
    (s.setDeadline l d).attn = s.attn := rfl
@[simp] theorem State.setDeadline_events (s : State) (l : LeaseId) (d : Option Deadline) :
    (s.setDeadline l d).events = withoutEvents (fun e => e.isExpiryOf l) s.events := rfl
@[simp] theorem State.setDeadline_pending (s : State) (l : LeaseId) (d : Option Deadline) :
    (s.setDeadline l d).pending = s.pending := rfl

/-! ### `purge` -/

@[simp] theorem State.purge_now (s : State) (l : LeaseId) : (s.purge l).now = s.now := by
  simp only [State.purge]
@[simp] theorem State.purge_leases (s : State) (l : LeaseId) : (s.purge l).leases = s.leases := by
  simp only [State.purge]
@[simp] theorem State.purge_deadlines (s : State) (l : LeaseId) : (s.purge l).deadlines = s.deadlines := by
  simp only [State.purge]
@[simp] theorem State.purge_slots (s : State) (l : LeaseId) :
    (s.purge l).slots = Vector.ofFn fun c => if s.inLease l c then none else s.slots[c] := by
  simp only [State.purge]
@[simp] theorem State.purge_channels (s : State) (l : LeaseId) : (s.purge l).channels = s.channels := by
  simp only [State.purge]
@[simp] theorem State.purge_haltTaken (s : State) (l : LeaseId) : (s.purge l).haltTaken = s.haltTaken := by
  simp only [State.purge]
@[simp] theorem State.purge_haltSampled (s : State) (l : LeaseId) : (s.purge l).haltSampled = s.haltSampled := by
  simp only [State.purge]
@[simp] theorem State.purge_ports (s : State) (l : LeaseId) : (s.purge l).ports = s.ports := by
  simp only [State.purge]
@[simp] theorem State.purge_arbiter (s : State) (l : LeaseId) : (s.purge l).arbiter = s.arbiter := by
  simp only [State.purge]
@[simp] theorem State.purge_notices (s : State) (l : LeaseId) : (s.purge l).notices = s.notices := by
  simp only [State.purge]
@[simp] theorem State.purge_attn (s : State) (l : LeaseId) : (s.purge l).attn = s.attn := by
  simp only [State.purge]
@[simp] theorem State.purge_events (s : State) (l : LeaseId) : (s.purge l).events = s.events := by
  simp only [State.purge]
@[simp] theorem State.purge_pending (s : State) (l : LeaseId) : (s.purge l).pending = s.pending := by
  simp only [State.purge]

/-! ### `post` -/

@[simp] theorem State.post_now (s : State) (p : Port) (l : LeaseId) (k : Post) : (s.post p l k).now = s.now := rfl
@[simp] theorem State.post_leases (s : State) (p : Port) (l : LeaseId) (k : Post) : (s.post p l k).leases = s.leases := rfl
@[simp] theorem State.post_deadlines (s : State) (p : Port) (l : LeaseId) (k : Post) :
    (s.post p l k).deadlines = s.deadlines := rfl
@[simp] theorem State.post_slots (s : State) (p : Port) (l : LeaseId) (k : Post) : (s.post p l k).slots = s.slots := rfl
@[simp] theorem State.post_channels (s : State) (p : Port) (l : LeaseId) (k : Post) :
    (s.post p l k).channels = s.channels := rfl
@[simp] theorem State.post_haltTaken (s : State) (p : Port) (l : LeaseId) (k : Post) :
    (s.post p l k).haltTaken = s.haltTaken := rfl
@[simp] theorem State.post_haltSampled (s : State) (p : Port) (l : LeaseId) (k : Post) :
    (s.post p l k).haltSampled = s.haltSampled := rfl
@[simp] theorem State.post_ports (s : State) (p : Port) (l : LeaseId) (k : Post) : (s.post p l k).ports = s.ports := rfl
@[simp] theorem State.post_arbiter (s : State) (p : Port) (l : LeaseId) (k : Post) :
    (s.post p l k).arbiter = s.arbiter := rfl
@[simp] theorem State.post_notices (s : State) (p : Port) (l : LeaseId) (k : Post) :
    (s.post p l k).notices = s.notices.set p.val (s.notices[p].set l.val (some ((s.notices[p][l].getD Notice.blank).add k))) := rfl
@[simp] theorem State.post_attn (s : State) (p : Port) (l : LeaseId) (k : Post) :
    (s.post p l k).attn = if noticeSetEmpty s.notices[p] then s.attn.set p.val true else s.attn := rfl
@[simp] theorem State.post_events (s : State) (p : Port) (l : LeaseId) (k : Post) : (s.post p l k).events = s.events := rfl
@[simp] theorem State.post_pending (s : State) (p : Port) (l : LeaseId) (k : Post) :
    (s.post p l k).pending = s.pending := rfl

/-! ### `setNotices` -/

@[simp] theorem State.setNotices_now (s : State) (p : Port) (v : Vector (Option Notice) 16) :
    (s.setNotices p v).now = s.now := rfl
@[simp] theorem State.setNotices_leases (s : State) (p : Port) (v : Vector (Option Notice) 16) :
    (s.setNotices p v).leases = s.leases := rfl
@[simp] theorem State.setNotices_deadlines (s : State) (p : Port) (v : Vector (Option Notice) 16) :
    (s.setNotices p v).deadlines = s.deadlines := rfl
@[simp] theorem State.setNotices_slots (s : State) (p : Port) (v : Vector (Option Notice) 16) :
    (s.setNotices p v).slots = s.slots := rfl
@[simp] theorem State.setNotices_channels (s : State) (p : Port) (v : Vector (Option Notice) 16) :
    (s.setNotices p v).channels = s.channels := rfl
@[simp] theorem State.setNotices_haltTaken (s : State) (p : Port) (v : Vector (Option Notice) 16) :
    (s.setNotices p v).haltTaken = s.haltTaken := rfl
@[simp] theorem State.setNotices_haltSampled (s : State) (p : Port) (v : Vector (Option Notice) 16) :
    (s.setNotices p v).haltSampled = s.haltSampled := rfl
@[simp] theorem State.setNotices_ports (s : State) (p : Port) (v : Vector (Option Notice) 16) :
    (s.setNotices p v).ports = s.ports := rfl
@[simp] theorem State.setNotices_arbiter (s : State) (p : Port) (v : Vector (Option Notice) 16) :
    (s.setNotices p v).arbiter = s.arbiter := rfl
@[simp] theorem State.setNotices_notices (s : State) (p : Port) (v : Vector (Option Notice) 16) :
    (s.setNotices p v).notices = s.notices.set p.val v := rfl
@[simp] theorem State.setNotices_attn (s : State) (p : Port) (v : Vector (Option Notice) 16) :
    (s.setNotices p v).attn = if noticeSetEmpty v then s.attn.set p.val false else s.attn := rfl
@[simp] theorem State.setNotices_events (s : State) (p : Port) (v : Vector (Option Notice) 16) :
    (s.setNotices p v).events = s.events := rfl
@[simp] theorem State.setNotices_pending (s : State) (p : Port) (v : Vector (Option Notice) 16) :
    (s.setNotices p v).pending = s.pending := rfl

/-! ### `respond` -/

@[simp] theorem State.respond_now (s : State) (p : Port) (st : Status) (tag : Byte) (body : List Byte) :
    (s.respond p st tag body).now = s.now := by
  simp only [State.respond, State.modPort]
@[simp] theorem State.respond_leases (s : State) (p : Port) (st : Status) (tag : Byte) (body : List Byte) :
    (s.respond p st tag body).leases = s.leases := by
  simp only [State.respond, State.modPort]
@[simp] theorem State.respond_deadlines (s : State) (p : Port) (st : Status) (tag : Byte) (body : List Byte) :
    (s.respond p st tag body).deadlines = s.deadlines := by
  simp only [State.respond, State.modPort]
@[simp] theorem State.respond_slots (s : State) (p : Port) (st : Status) (tag : Byte) (body : List Byte) :
    (s.respond p st tag body).slots = s.slots := by
  simp only [State.respond, State.modPort]
@[simp] theorem State.respond_channels (s : State) (p : Port) (st : Status) (tag : Byte) (body : List Byte) :
    (s.respond p st tag body).channels = s.channels := by
  simp only [State.respond, State.modPort]
@[simp] theorem State.respond_haltTaken (s : State) (p : Port) (st : Status) (tag : Byte) (body : List Byte) :
    (s.respond p st tag body).haltTaken = s.haltTaken := by
  simp only [State.respond, State.modPort]
@[simp] theorem State.respond_haltSampled (s : State) (p : Port) (st : Status) (tag : Byte) (body : List Byte) :
    (s.respond p st tag body).haltSampled = s.haltSampled := by
  simp only [State.respond, State.modPort]
@[simp] theorem State.respond_ports (s : State) (p : Port) (st : Status) (tag : Byte) (body : List Byte) :
    (s.respond p st tag body).ports =
      s.ports.set p.val
        { s.ports[p] with request := none, response := .ready { status := st, tag := tag, body := body } } := by
  simp only [State.respond, State.modPort]
@[simp] theorem State.respond_arbiter (s : State) (p : Port) (st : Status) (tag : Byte) (body : List Byte) :
    (s.respond p st tag body).arbiter = p := by
  simp only [State.respond, State.modPort]
@[simp] theorem State.respond_notices (s : State) (p : Port) (st : Status) (tag : Byte) (body : List Byte) :
    (s.respond p st tag body).notices = s.notices := by
  simp only [State.respond, State.modPort]
@[simp] theorem State.respond_attn (s : State) (p : Port) (st : Status) (tag : Byte) (body : List Byte) :
    (s.respond p st tag body).attn = s.attn := by
  simp only [State.respond, State.modPort]
@[simp] theorem State.respond_events (s : State) (p : Port) (st : Status) (tag : Byte) (body : List Byte) :
    (s.respond p st tag body).events = s.events := by
  simp only [State.respond, State.modPort]
@[simp] theorem State.respond_pending (s : State) (p : Port) (st : Status) (tag : Byte) (body : List Byte) :
    (s.respond p st tag body).pending = s.pending := by
  simp only [State.respond, State.modPort]

/-! ### `raise`: only the events -/

@[simp] theorem State.raise_now (s : State) (es : List Event) : (s.raise es).now = s.now := by
  unfold State.raise; split <;> rfl
@[simp] theorem State.raise_leases (s : State) (es : List Event) : (s.raise es).leases = s.leases := by
  unfold State.raise; split <;> rfl
@[simp] theorem State.raise_deadlines (s : State) (es : List Event) : (s.raise es).deadlines = s.deadlines := by
  unfold State.raise; split <;> rfl
@[simp] theorem State.raise_slots (s : State) (es : List Event) : (s.raise es).slots = s.slots := by
  unfold State.raise; split <;> rfl
@[simp] theorem State.raise_channels (s : State) (es : List Event) : (s.raise es).channels = s.channels := by
  unfold State.raise; split <;> rfl
@[simp] theorem State.raise_haltTaken (s : State) (es : List Event) : (s.raise es).haltTaken = s.haltTaken := by
  unfold State.raise; split <;> rfl
@[simp] theorem State.raise_haltSampled (s : State) (es : List Event) : (s.raise es).haltSampled = s.haltSampled := by
  unfold State.raise; split <;> rfl
@[simp] theorem State.raise_ports (s : State) (es : List Event) : (s.raise es).ports = s.ports := by
  unfold State.raise; split <;> rfl
@[simp] theorem State.raise_arbiter (s : State) (es : List Event) : (s.raise es).arbiter = s.arbiter := by
  unfold State.raise; split <;> rfl
@[simp] theorem State.raise_notices (s : State) (es : List Event) : (s.raise es).notices = s.notices := by
  unfold State.raise; split <;> rfl
@[simp] theorem State.raise_attn (s : State) (es : List Event) : (s.raise es).attn = s.attn := by
  unfold State.raise; split <;> rfl
@[simp] theorem State.raise_pending (s : State) (es : List Event) : (s.raise es).pending = s.pending := by
  unfold State.raise; split <;> rfl

/-! ### `dropDue`: only the events -/

@[simp] theorem State.dropDue_now (s : State) (e : Event) : (s.dropDue e).now = s.now := by
  unfold State.dropDue; split <;> rfl
@[simp] theorem State.dropDue_leases (s : State) (e : Event) : (s.dropDue e).leases = s.leases := by
  unfold State.dropDue; split <;> rfl
@[simp] theorem State.dropDue_deadlines (s : State) (e : Event) : (s.dropDue e).deadlines = s.deadlines := by
  unfold State.dropDue; split <;> rfl
@[simp] theorem State.dropDue_slots (s : State) (e : Event) : (s.dropDue e).slots = s.slots := by
  unfold State.dropDue; split <;> rfl
@[simp] theorem State.dropDue_channels (s : State) (e : Event) : (s.dropDue e).channels = s.channels := by
  unfold State.dropDue; split <;> rfl
@[simp] theorem State.dropDue_haltTaken (s : State) (e : Event) : (s.dropDue e).haltTaken = s.haltTaken := by
  unfold State.dropDue; split <;> rfl
@[simp] theorem State.dropDue_haltSampled (s : State) (e : Event) : (s.dropDue e).haltSampled = s.haltSampled := by
  unfold State.dropDue; split <;> rfl
@[simp] theorem State.dropDue_ports (s : State) (e : Event) : (s.dropDue e).ports = s.ports := by
  unfold State.dropDue; split <;> rfl
@[simp] theorem State.dropDue_arbiter (s : State) (e : Event) : (s.dropDue e).arbiter = s.arbiter := by
  unfold State.dropDue; split <;> rfl
@[simp] theorem State.dropDue_notices (s : State) (e : Event) : (s.dropDue e).notices = s.notices := by
  unfold State.dropDue; split <;> rfl
@[simp] theorem State.dropDue_attn (s : State) (e : Event) : (s.dropDue e).attn = s.attn := by
  unfold State.dropDue; split <;> rfl
@[simp] theorem State.dropDue_pending (s : State) (e : Event) : (s.dropDue e).pending = s.pending := by
  unfold State.dropDue; split <;> rfl

theorem State.raise_events (s : State) (es : List Event) :
    (s.raise es).events = if es = [] then s.events else s.events ++ [es] := by
  unfold State.raise; split <;> rfl

theorem State.raise_eq (s : State) (es : List Event) :
    s.raise es = { s with events := if es = [] then s.events else s.events ++ [es] } := by
  unfold State.raise; split <;> rfl

theorem State.dropDue_eq (s : State) (e : Event) : s.dropDue e = { s with events := (s.dropDue e).events } := by
  unfold State.dropDue; split <;> rfl

/-! ### Reading a record after a write -/

theorem getElem_set_fin {α : Type} {n : Nat} (v : Vector α n) (i j : Fin n) (x : α) :
    (v.set i.val x)[j] = if j = i then x else v[j] := by
  simp only [Fin.getElem_fin, Vector.getElem_set, Fin.ext_iff, eq_comm]

theorem getElem_ofFn_fin {α : Type} {n : Nat} (f : Fin n → α) (j : Fin n) : (Vector.ofFn f)[j] = f j := by
  simp [Fin.getElem_fin]

theorem State.modLease_get (s : State) (l l' : LeaseId) (f : Lease → Lease) :
    (s.modLease l f).leases[l'] = if l' = l then f s.leases[l] else s.leases[l'] := getElem_set_fin ..

theorem State.modChannel_get (s : State) (c c' : ChannelId) (f : Channel → Channel) :
    (s.modChannel c f).channels[c'] = if c' = c then f s.channels[c] else s.channels[c'] := getElem_set_fin ..

theorem State.mapChannels_get (s : State) (f : ChannelId → Channel → Channel) (c : ChannelId) :
    (s.mapChannels f).channels[c] = f c s.channels[c] := getElem_ofFn_fin ..

theorem State.setSlot_get (s : State) (c c' : ChannelId) (x : Option StagedSet) :
    (s.setSlot c x).slots[c'] = if c' = c then x else s.slots[c'] := getElem_set_fin ..

theorem State.modPort_get (s : State) (p p' : Port) (f : PortRecord → PortRecord) :
    (s.modPort p f).ports[p'] = if p' = p then f s.ports[p] else s.ports[p'] := getElem_set_fin ..

theorem State.setDeadline_get (s : State) (l l' : LeaseId) (d : Option Deadline) :
    (s.setDeadline l d).deadlines[l'] = if l' = l then d else s.deadlines[l'] := getElem_set_fin ..

theorem State.purge_get (s : State) (l : LeaseId) (c : ChannelId) :
    (s.purge l).slots[c] = if s.inLease l c then none else s.slots[c] := getElem_ofFn_fin ..

theorem State.post_get (s : State) (p p' : Port) (l l' : LeaseId) (k : Post) :
    (s.post p l k).notices[p'][l'] =
      if p' = p ∧ l' = l then some ((s.notices[p][l].getD Notice.blank).add k) else s.notices[p'][l'] := by
  rw [State.post_notices, getElem_set_fin]
  by_cases hp : p' = p
  · subst hp; simp only [if_true, getElem_set_fin, true_and]
  · simp [hp]

end Sys2Proof.Machine
end

