-- ==== Sys2Proof/Laws/Ops.lean ====
section
/-! SUPPORT. What each shared operation can do, said once: its result field by field, the fields it leaves alone, and the cases of a
take. Later proofs cite these and unfold nothing below them. -/

namespace Sys2Proof.Machine

/-! ### The tables -/

@[simp] theorem mem_leaseIds (l : LeaseId) : l ∈ leaseIds := by revert l; decide

@[simp] theorem mem_channelIds (c : ChannelId) : c ∈ channelIds := by revert c; decide

/-- What one step of a walk keeps, the walk keeps. -/
theorem State.eachLease_induct {P : State → Prop} {f : LeaseId → State → State} (s : State) (hs : P s)
    (hf : ∀ l t, P t → P (f l t)) : P (s.eachLease f) := by
  unfold State.eachLease
  generalize leaseIds = ls
  induction ls generalizing s with
  | nil => exact hs
  | cons l rest ih => exact ih (f l s) (hf l s hs)

theorem noticeSetEmpty_iff (v : Vector (Option Notice) 16) : noticeSetEmpty v = true ↔ ∀ l : LeaseId, v[l] = none := by
  simp [noticeSetEmpty, List.all_eq_true]

theorem State.anyParking_iff (s : State) (l : LeaseId) :
    s.anyParking l = true ↔ ∃ c : ChannelId, s.inLease l c = true ∧ s.channels[c].state = .parking := by
  simp [State.anyParking, List.any_eq_true]

theorem State.anyHalted_iff (s : State) (l : LeaseId) :
    s.anyHalted l = true ↔ ∃ c : ChannelId, s.inLease l c = true ∧ s.channels[c].halted = true := by
  simp [State.anyHalted, List.any_eq_true]

theorem State.anyInLease_iff (s : State) (l : LeaseId) (p : ChannelId → Bool) :
    s.anyInLease l p = true ↔ ∃ c : ChannelId, s.inLease l c = true ∧ p c = true := by
  simp [State.anyInLease, List.any_eq_true]

/-- Who is in a lease is said by the definitions alone. -/
theorem State.inLease_congr {s t : State} {l : LeaseId} (h : t.leases[l].defn = s.leases[l].defn) (c : ChannelId) :
    t.inLease l c = s.inLease l c := by
  simp only [State.inLease, Lease.channelSet, h]

/-! ### `postHolder` -/

@[simp] theorem State.postHolder_now (s : State) (l : LeaseId) (k : Post) : (s.postHolder l k).now = s.now := by
  unfold State.postHolder; split <;> rfl
@[simp] theorem State.postHolder_leases (s : State) (l : LeaseId) (k : Post) :
    (s.postHolder l k).leases = s.leases := by
  unfold State.postHolder; split <;> rfl
@[simp] theorem State.postHolder_deadlines (s : State) (l : LeaseId) (k : Post) :
    (s.postHolder l k).deadlines = s.deadlines := by
  unfold State.postHolder; split <;> rfl
@[simp] theorem State.postHolder_slots (s : State) (l : LeaseId) (k : Post) : (s.postHolder l k).slots = s.slots := by
  unfold State.postHolder; split <;> rfl
@[simp] theorem State.postHolder_channels (s : State) (l : LeaseId) (k : Post) :
    (s.postHolder l k).channels = s.channels := by
  unfold State.postHolder; split <;> rfl
@[simp] theorem State.postHolder_haltTaken (s : State) (l : LeaseId) (k : Post) :
    (s.postHolder l k).haltTaken = s.haltTaken := by
  unfold State.postHolder; split <;> rfl
@[simp] theorem State.postHolder_haltSampled (s : State) (l : LeaseId) (k : Post) :
    (s.postHolder l k).haltSampled = s.haltSampled := by
  unfold State.postHolder; split <;> rfl
@[simp] theorem State.postHolder_ports (s : State) (l : LeaseId) (k : Post) : (s.postHolder l k).ports = s.ports := by
  unfold State.postHolder; split <;> rfl
@[simp] theorem State.postHolder_arbiter (s : State) (l : LeaseId) (k : Post) :
    (s.postHolder l k).arbiter = s.arbiter := by
  unfold State.postHolder; split <;> rfl
@[simp] theorem State.postHolder_events (s : State) (l : LeaseId) (k : Post) :
    (s.postHolder l k).events = s.events := by
  unfold State.postHolder; split <;> rfl
@[simp] theorem State.postHolder_pending (s : State) (l : LeaseId) (k : Post) :
    (s.postHolder l k).pending = s.pending := by
  unfold State.postHolder; split <;> rfl

theorem State.postHolder_of_holder {s : State} {l : LeaseId} {p : Port} (h : s.leases[l].holder = some p) (k : Post) :
    s.postHolder l k = s.post p l k := by
  unfold State.postHolder; rw [h]

/-! ### `grant` -/

@[simp] theorem State.grant_now (s : State) (l : LeaseId) (p : Port) (term : Word16) :
    (s.grant l p term).now = s.now := by
  simp only [State.grant, State.post_now, State.purge_now, State.setDeadline_now, State.modLease_now]
@[simp] theorem State.grant_channels (s : State) (l : LeaseId) (p : Port) (term : Word16) :
    (s.grant l p term).channels = s.channels := by
  simp only [State.grant, State.post_channels, State.purge_channels, State.setDeadline_channels, State.modLease_channels]
@[simp] theorem State.grant_haltTaken (s : State) (l : LeaseId) (p : Port) (term : Word16) :
    (s.grant l p term).haltTaken = s.haltTaken := by
  simp only [State.grant, State.post_haltTaken, State.purge_haltTaken, State.setDeadline_haltTaken, State.modLease_haltTaken]
@[simp] theorem State.grant_haltSampled (s : State) (l : LeaseId) (p : Port) (term : Word16) :
    (s.grant l p term).haltSampled = s.haltSampled := by
  simp only [State.grant, State.post_haltSampled, State.purge_haltSampled, State.setDeadline_haltSampled, State.modLease_haltSampled]
@[simp] theorem State.grant_ports (s : State) (l : LeaseId) (p : Port) (term : Word16) :
    (s.grant l p term).ports = s.ports := by
  simp only [State.grant, State.post_ports, State.purge_ports, State.setDeadline_ports, State.modLease_ports]
@[simp] theorem State.grant_arbiter (s : State) (l : LeaseId) (p : Port) (term : Word16) :
    (s.grant l p term).arbiter = s.arbiter := by
  simp only [State.grant, State.post_arbiter, State.purge_arbiter, State.setDeadline_arbiter, State.modLease_arbiter]
@[simp] theorem State.grant_pending (s : State) (l : LeaseId) (p : Port) (term : Word16) :
    (s.grant l p term).pending = s.pending := by
  simp only [State.grant, State.post_pending, State.purge_pending, State.setDeadline_pending, State.modLease_pending]

theorem State.grant_leases (s : State) (l : LeaseId) (p : Port) (term : Word16) :
    (s.grant l p term).leases = s.leases.set l.val (s.leases[l].granted p term) := by
  simp only [State.grant, State.post_leases, State.purge_leases, State.setDeadline_leases, State.modLease_leases]

theorem State.grant_deadlines (s : State) (l : LeaseId) (p : Port) (term : Word16) :
    (s.grant l p term).deadlines = s.deadlines.set l.val (some { kind := .term, tick := s.tickAfter term }) := by
  simp only [State.grant, State.post_deadlines, State.purge_deadlines, State.setDeadline_deadlines, State.modLease_deadlines]

theorem State.grant_events (s : State) (l : LeaseId) (p : Port) (term : Word16) :
    (s.grant l p term).events = withoutEvents (fun e => e.isExpiryOf l) s.events := by
  simp only [State.grant, State.post_events, State.purge_events, State.setDeadline_events, State.modLease_events]

/-- A grant empties the slots of the lease's channels and no other. -/
theorem State.grant_slots_get (s : State) (l : LeaseId) (p : Port) (term : Word16) (c : ChannelId) :
    (s.grant l p term).slots[c] = if s.inLease l c then none else s.slots[c] := by
  have h : ((s.modLease l fun r => r.granted p term).setDeadline l
      (some { kind := .term, tick := s.tickAfter term })).inLease l c = s.inLease l c := by
    apply State.inLease_congr
    simp [Lease.granted]
  simp only [State.grant, State.post_slots, State.purge_get, h, State.setDeadline_slots, State.modLease_slots]

/-- A grant tells the new holder, and no one else. -/
theorem State.grant_notices (s : State) (l : LeaseId) (p : Port) (term : Word16) :
    (s.grant l p term).notices = (s.post p l (.granted (nextEpoch s.leases[l].epoch))).notices := by
  simp only [State.grant, State.post_notices, State.purge_notices, State.setDeadline_notices, State.modLease_notices]

theorem State.grant_attn (s : State) (l : LeaseId) (p : Port) (term : Word16) :
    (s.grant l p term).attn = (s.post p l (.granted (nextEpoch s.leases[l].epoch))).attn := by
  simp only [State.grant, State.post_attn, State.purge_notices, State.setDeadline_notices, State.modLease_notices,
    State.purge_attn, State.setDeadline_attn, State.modLease_attn]

/-! ### Parking -/

theorem Channel.parked_state (ch : Channel) : ch.parked.state = .parked := by
  unfold Channel.parked; split <;> simp_all

theorem Channel.parked_of_parked {ch : Channel} (h : ch.state = .parked) : ch.parked = ch := by
  unfold Channel.parked; rw [if_pos h]

/-- Parking twice is parking once (R84). -/
theorem Channel.parked_parked (ch : Channel) : ch.parked.parked = ch.parked := Channel.parked_of_parked ch.parked_state

theorem Channel.parked_keeps (ch : Channel) :
    ch.parked.lease = ch.lease ∧ ch.parked.parkAction = ch.parkAction ∧ ch.parked.parkTiming = ch.parkTiming ∧
      ch.parked.haltGroup = ch.haltGroup ∧ ch.parked.halted = ch.halted ∧ ch.parked.active = ch.active ∧
      ch.parked.counter = ch.counter ∧ ch.parked.direction = ch.direction ∧ ch.parked.holdSerial = ch.holdSerial := by
  unfold Channel.parked; split <;> simp

/-- A lapse start leaves a channel PARKED or PARKING, and PARKING only by park timing or as it was (R56). -/
theorem Channel.lapsed_state (ch : Channel) (allAtOnce : Bool) :
    (ch.lapsed allAtOnce).state = .parked ∨
      ((ch.lapsed allAtOnce).state = .parking ∧ allAtOnce = false ∧
        ((ch.state = .running ∧ ch.parkTiming = .atPeriodEnd) ∨ ch.state = .parking)) := by
  unfold Channel.lapsed
  split
  · next h =>
    split
    · exact .inl ch.parked_state
    · next h' => cases ht : ch.parkTiming <;> simp_all
  · exact .inl ch.parked_state
  · next h => exact .inl h
  · next h =>
    split
    · exact .inl ch.parked_state
    · next h' => simp_all

theorem Channel.lapsed_keeps (ch : Channel) (b : Bool) :
    (ch.lapsed b).lease = ch.lease ∧ (ch.lapsed b).haltGroup = ch.haltGroup ∧ (ch.lapsed b).halted = ch.halted ∧
      (ch.lapsed b).active = ch.active ∧ (ch.lapsed b).holdSerial = ch.holdSerial ∧
      (ch.lapsed b).parkAction = ch.parkAction ∧ (ch.lapsed b).parkTiming = ch.parkTiming := by
  have h := ch.parked_keeps
  unfold Channel.lapsed
  split <;> (try split) <;> simp [h]

/-! ### `parkLease` and `startStaged`: only the channels -/

@[simp] theorem State.parkLease_now (s : State) (l : LeaseId) : (s.parkLease l).now = s.now := by
  simp only [State.parkLease, State.mapChannels_now]
@[simp] theorem State.parkLease_leases (s : State) (l : LeaseId) : (s.parkLease l).leases = s.leases := by
  simp only [State.parkLease, State.mapChannels_leases]
@[simp] theorem State.parkLease_deadlines (s : State) (l : LeaseId) : (s.parkLease l).deadlines = s.deadlines := by
  simp only [State.parkLease, State.mapChannels_deadlines]
@[simp] theorem State.parkLease_slots (s : State) (l : LeaseId) : (s.parkLease l).slots = s.slots := by
  simp only [State.parkLease, State.mapChannels_slots]
@[simp] theorem State.parkLease_haltTaken (s : State) (l : LeaseId) : (s.parkLease l).haltTaken = s.haltTaken := by
  simp only [State.parkLease, State.mapChannels_haltTaken]
@[simp] theorem State.parkLease_haltSampled (s : State) (l : LeaseId) : (s.parkLease l).haltSampled = s.haltSampled := by
  simp only [State.parkLease, State.mapChannels_haltSampled]
@[simp] theorem State.parkLease_ports (s : State) (l : LeaseId) : (s.parkLease l).ports = s.ports := by
  simp only [State.parkLease, State.mapChannels_ports]
@[simp] theorem State.parkLease_arbiter (s : State) (l : LeaseId) : (s.parkLease l).arbiter = s.arbiter := by
  simp only [State.parkLease, State.mapChannels_arbiter]
@[simp] theorem State.parkLease_notices (s : State) (l : LeaseId) : (s.parkLease l).notices = s.notices := by
  simp only [State.parkLease, State.mapChannels_notices]
@[simp] theorem State.parkLease_attn (s : State) (l : LeaseId) : (s.parkLease l).attn = s.attn := by
  simp only [State.parkLease, State.mapChannels_attn]
@[simp] theorem State.parkLease_events (s : State) (l : LeaseId) : (s.parkLease l).events = s.events := by
  simp only [State.parkLease, State.mapChannels_events]
@[simp] theorem State.parkLease_pending (s : State) (l : LeaseId) : (s.parkLease l).pending = s.pending := by
  simp only [State.parkLease, State.mapChannels_pending]

@[simp] theorem State.startStaged_now (s : State) (l : LeaseId) : (s.startStaged l).now = s.now := by
  simp only [State.startStaged, State.mapChannels_now]
@[simp] theorem State.startStaged_leases (s : State) (l : LeaseId) : (s.startStaged l).leases = s.leases := by
  simp only [State.startStaged, State.mapChannels_leases]
@[simp] theorem State.startStaged_deadlines (s : State) (l : LeaseId) : (s.startStaged l).deadlines = s.deadlines := by
  simp only [State.startStaged, State.mapChannels_deadlines]
@[simp] theorem State.startStaged_slots (s : State) (l : LeaseId) : (s.startStaged l).slots = s.slots := by
  simp only [State.startStaged, State.mapChannels_slots]
@[simp] theorem State.startStaged_haltTaken (s : State) (l : LeaseId) : (s.startStaged l).haltTaken = s.haltTaken := by
  simp only [State.startStaged, State.mapChannels_haltTaken]
@[simp] theorem State.startStaged_haltSampled (s : State) (l : LeaseId) : (s.startStaged l).haltSampled = s.haltSampled := by
  simp only [State.startStaged, State.mapChannels_haltSampled]
@[simp] theorem State.startStaged_ports (s : State) (l : LeaseId) : (s.startStaged l).ports = s.ports := by
  simp only [State.startStaged, State.mapChannels_ports]
@[simp] theorem State.startStaged_arbiter (s : State) (l : LeaseId) : (s.startStaged l).arbiter = s.arbiter := by
  simp only [State.startStaged, State.mapChannels_arbiter]
@[simp] theorem State.startStaged_notices (s : State) (l : LeaseId) : (s.startStaged l).notices = s.notices := by
  simp only [State.startStaged, State.mapChannels_notices]
@[simp] theorem State.startStaged_attn (s : State) (l : LeaseId) : (s.startStaged l).attn = s.attn := by
  simp only [State.startStaged, State.mapChannels_attn]
@[simp] theorem State.startStaged_events (s : State) (l : LeaseId) : (s.startStaged l).events = s.events := by
  simp only [State.startStaged, State.mapChannels_events]
@[simp] theorem State.startStaged_pending (s : State) (l : LeaseId) : (s.startStaged l).pending = s.pending := by
  simp only [State.startStaged, State.mapChannels_pending]

theorem State.parkLease_get (s : State) (l : LeaseId) (c : ChannelId) :
    (s.parkLease l).channels[c] = if s.inLease l c then s.channels[c].parked else s.channels[c] := by
  simp only [State.parkLease, State.mapChannels_get]

/-! ### `lapseStart` -/

@[simp] theorem State.lapseStart_now (s : State) (l : LeaseId) (r : LapseReason) : (s.lapseStart l r).now = s.now := by
  unfold State.lapseStart; split <;>
    simp only [State.postHolder_now, State.mapChannels_now, State.purge_now, State.setDeadline_now, State.modLease_now]
@[simp] theorem State.lapseStart_haltTaken (s : State) (l : LeaseId) (r : LapseReason) : (s.lapseStart l r).haltTaken = s.haltTaken := by
  unfold State.lapseStart; split <;>
    simp only [State.postHolder_haltTaken, State.mapChannels_haltTaken, State.purge_haltTaken, State.setDeadline_haltTaken, State.modLease_haltTaken]
@[simp] theorem State.lapseStart_haltSampled (s : State) (l : LeaseId) (r : LapseReason) : (s.lapseStart l r).haltSampled = s.haltSampled := by
  unfold State.lapseStart; split <;>
    simp only [State.postHolder_haltSampled, State.mapChannels_haltSampled, State.purge_haltSampled, State.setDeadline_haltSampled, State.modLease_haltSampled]
@[simp] theorem State.lapseStart_ports (s : State) (l : LeaseId) (r : LapseReason) : (s.lapseStart l r).ports = s.ports := by
  unfold State.lapseStart; split <;>
    simp only [State.postHolder_ports, State.mapChannels_ports, State.purge_ports, State.setDeadline_ports, State.modLease_ports]
@[simp] theorem State.lapseStart_arbiter (s : State) (l : LeaseId) (r : LapseReason) : (s.lapseStart l r).arbiter = s.arbiter := by
  unfold State.lapseStart; split <;>
    simp only [State.postHolder_arbiter, State.mapChannels_arbiter, State.purge_arbiter, State.setDeadline_arbiter, State.modLease_arbiter]
@[simp] theorem State.lapseStart_pending (s : State) (l : LeaseId) (r : LapseReason) : (s.lapseStart l r).pending = s.pending := by
  unfold State.lapseStart; split <;>
    simp only [State.postHolder_pending, State.mapChannels_pending, State.purge_pending, State.setDeadline_pending, State.modLease_pending]

theorem State.lapseStart_leases (s : State) (l : LeaseId) (r : LapseReason) :
    (s.lapseStart l r).leases = s.leases.set l.val (s.leases[l].lapseStarted r) := by
  unfold State.lapseStart; split <;>
    simp only [State.postHolder_leases, State.mapChannels_leases, State.purge_leases, State.setDeadline_leases,
      State.modLease_leases]

theorem State.lapseStart_deadlines (s : State) (l : LeaseId) (r : LapseReason) :
    (s.lapseStart l r).deadlines = s.deadlines.set l.val none := by
  unfold State.lapseStart; split <;>
    simp only [State.postHolder_deadlines, State.mapChannels_deadlines, State.purge_deadlines, State.setDeadline_deadlines,
      State.modLease_deadlines]

theorem State.lapseStart_events (s : State) (l : LeaseId) (r : LapseReason) :
    (s.lapseStart l r).events = withoutEvents (fun e => e.isExpiryOf l) s.events := by
  unfold State.lapseStart; split <;>
    simp only [State.postHolder_events, State.mapChannels_events, State.purge_events, State.setDeadline_events,
      State.modLease_events]


/-- Ending a lease's hold does not move its channel set. -/
theorem State.lapseStart_inLease (s : State) (l l' : LeaseId) (r : LapseReason) (c : ChannelId) :
    (s.lapseStart l r).inLease l' c = s.inLease l' c := by
  apply State.inLease_congr
  rw [State.lapseStart_leases, getElem_set_fin]
  split
  · next h => subst h; rfl
  · rfl

theorem State.lapsingRecord_inLease (s : State) (l l' : LeaseId) (r : LapseReason) (c : ChannelId) :
    (((s.modLease l fun x => x.lapseStarted r).setDeadline l none).purge l).inLease l' c = s.inLease l' c := by
  apply State.inLease_congr
  rw [State.purge_leases, State.setDeadline_leases, State.modLease_get]
  split
  · next h => subst h; rfl
  · rfl

theorem State.lapseStart_channels_get (s : State) (l : LeaseId) (r : LapseReason) (c : ChannelId) :
    (s.lapseStart l r).channels[c] = if s.inLease l c then s.channels[c].lapsed (r == .revoked) else s.channels[c] := by
  unfold State.lapseStart; split <;>
    simp only [State.postHolder_channels, State.mapChannels_get, State.lapsingRecord_inLease, State.purge_channels,
      State.setDeadline_channels, State.modLease_channels]

theorem State.lapseStart_slots_get (s : State) (l : LeaseId) (r : LapseReason) (c : ChannelId) :
    (s.lapseStart l r).slots[c] = if s.inLease l c then none else s.slots[c] := by
  have h : ((s.modLease l fun x => x.lapseStarted r).setDeadline l none).inLease l c = s.inLease l c := by
    apply State.inLease_congr
    rw [State.setDeadline_leases, State.modLease_get, if_pos rfl]
    rfl
  unfold State.lapseStart; split <;>
    simp only [State.postHolder_slots, State.mapChannels_slots, State.purge_get, h, State.setDeadline_slots,
      State.modLease_slots]

/-! ### `lapseComplete`, `completeIfParked`, `lapse` -/

@[simp] theorem State.lapseComplete_now (s : State) (l : LeaseId) : (s.lapseComplete l).now = s.now := by
  unfold State.lapseComplete; dsimp only; split <;>
    simp only [State.setDeadline_now, State.grant_now, State.modLease_now, State.purge_now]
@[simp] theorem State.lapseComplete_channels (s : State) (l : LeaseId) : (s.lapseComplete l).channels = s.channels := by
  unfold State.lapseComplete; dsimp only; split <;>
    simp only [State.setDeadline_channels, State.grant_channels, State.modLease_channels, State.purge_channels]
@[simp] theorem State.lapseComplete_haltTaken (s : State) (l : LeaseId) : (s.lapseComplete l).haltTaken = s.haltTaken := by
  unfold State.lapseComplete; dsimp only; split <;>
    simp only [State.setDeadline_haltTaken, State.grant_haltTaken, State.modLease_haltTaken, State.purge_haltTaken]
@[simp] theorem State.lapseComplete_haltSampled (s : State) (l : LeaseId) : (s.lapseComplete l).haltSampled = s.haltSampled := by
  unfold State.lapseComplete; dsimp only; split <;>
    simp only [State.setDeadline_haltSampled, State.grant_haltSampled, State.modLease_haltSampled, State.purge_haltSampled]
@[simp] theorem State.lapseComplete_ports (s : State) (l : LeaseId) : (s.lapseComplete l).ports = s.ports := by
  unfold State.lapseComplete; dsimp only; split <;>
    simp only [State.setDeadline_ports, State.grant_ports, State.modLease_ports, State.purge_ports]
@[simp] theorem State.lapseComplete_arbiter (s : State) (l : LeaseId) : (s.lapseComplete l).arbiter = s.arbiter := by
  unfold State.lapseComplete; dsimp only; split <;>
    simp only [State.setDeadline_arbiter, State.grant_arbiter, State.modLease_arbiter, State.purge_arbiter]
@[simp] theorem State.lapseComplete_pending (s : State) (l : LeaseId) : (s.lapseComplete l).pending = s.pending := by
  unfold State.lapseComplete; dsimp only; split <;>
    simp only [State.setDeadline_pending, State.grant_pending, State.modLease_pending, State.purge_pending]
@[simp] theorem State.completeIfParked_now (s : State) (l : LeaseId) : (s.completeIfParked l).now = s.now := by
  unfold State.completeIfParked; split <;> simp only [State.lapseComplete_now]
@[simp] theorem State.completeIfParked_channels (s : State) (l : LeaseId) : (s.completeIfParked l).channels = s.channels := by
  unfold State.completeIfParked; split <;> simp only [State.lapseComplete_channels]
@[simp] theorem State.completeIfParked_haltTaken (s : State) (l : LeaseId) : (s.completeIfParked l).haltTaken = s.haltTaken := by
  unfold State.completeIfParked; split <;> simp only [State.lapseComplete_haltTaken]
@[simp] theorem State.completeIfParked_haltSampled (s : State) (l : LeaseId) : (s.completeIfParked l).haltSampled = s.haltSampled := by
  unfold State.completeIfParked; split <;> simp only [State.lapseComplete_haltSampled]
@[simp] theorem State.completeIfParked_ports (s : State) (l : LeaseId) : (s.completeIfParked l).ports = s.ports := by
  unfold State.completeIfParked; split <;> simp only [State.lapseComplete_ports]
@[simp] theorem State.completeIfParked_arbiter (s : State) (l : LeaseId) : (s.completeIfParked l).arbiter = s.arbiter := by
  unfold State.completeIfParked; split <;> simp only [State.lapseComplete_arbiter]
@[simp] theorem State.completeIfParked_pending (s : State) (l : LeaseId) : (s.completeIfParked l).pending = s.pending := by
  unfold State.completeIfParked; split <;> simp only [State.lapseComplete_pending]
@[simp] theorem State.lapse_now (s : State) (l : LeaseId) (r : LapseReason) : (s.lapse l r).now = s.now := by
  simp only [State.lapse, State.completeIfParked_now, State.lapseStart_now]
@[simp] theorem State.lapse_haltTaken (s : State) (l : LeaseId) (r : LapseReason) : (s.lapse l r).haltTaken = s.haltTaken := by
  simp only [State.lapse, State.completeIfParked_haltTaken, State.lapseStart_haltTaken]
@[simp] theorem State.lapse_haltSampled (s : State) (l : LeaseId) (r : LapseReason) : (s.lapse l r).haltSampled = s.haltSampled := by
  simp only [State.lapse, State.completeIfParked_haltSampled, State.lapseStart_haltSampled]
@[simp] theorem State.lapse_ports (s : State) (l : LeaseId) (r : LapseReason) : (s.lapse l r).ports = s.ports := by
  simp only [State.lapse, State.completeIfParked_ports, State.lapseStart_ports]
@[simp] theorem State.lapse_arbiter (s : State) (l : LeaseId) (r : LapseReason) : (s.lapse l r).arbiter = s.arbiter := by
  simp only [State.lapse, State.completeIfParked_arbiter, State.lapseStart_arbiter]
@[simp] theorem State.lapse_pending (s : State) (l : LeaseId) (r : LapseReason) : (s.lapse l r).pending = s.pending := by
  simp only [State.lapse, State.completeIfParked_pending, State.lapseStart_pending]

theorem State.lapse_channels_get (s : State) (l : LeaseId) (r : LapseReason) (c : ChannelId) :
    (s.lapse l r).channels[c] = if s.inLease l c then s.channels[c].lapsed (r == .revoked) else s.channels[c] := by
  simp only [State.lapse, State.completeIfParked_channels, State.lapseStart_channels_get]

/-- A completion either does nothing (the lease is not LAPSING, or a channel of it is PARKING) or completes the lapse. -/
theorem State.completeIfParked_cases (s : State) (l : LeaseId) :
    ((s.leases[l].state ≠ .lapsing ∨ s.anyParking l = true) ∧ s.completeIfParked l = s) ∨
      (s.leases[l].state = .lapsing ∧ s.anyParking l = false ∧ s.completeIfParked l = s.lapseComplete l) := by
  unfold State.completeIfParked
  split
  · next h =>
    simp only [Bool.and_eq_true, decide_eq_true_eq, Bool.not_eq_true'] at h
    exact .inr ⟨h.1, h.2, rfl⟩
  · next h =>
    refine .inl ⟨?_, rfl⟩
    by_cases hs : s.leases[l].state = .lapsing
    · cases hp : s.anyParking l
      · exact absurd (by rw [hp, hs]; decide) h
      · exact .inr rfl
    · exact .inl hs

/-- A completion goes VACANT on an empty queue, and else grants to the head. -/
theorem State.lapseComplete_cases (s : State) (l : LeaseId) :
    (s.leases[l].queue = [] ∧
        s.lapseComplete l = ((s.purge l).modLease l fun r => r.vacated).setDeadline l none) ∨
      ∃ (w : Waiter) (rest : List Waiter), s.leases[l].queue = w :: rest ∧
        s.lapseComplete l =
          ((((s.purge l).modLease l fun r => r.vacated).modLease l fun r => { r with queue := rest }).grant l w.port
            w.term) := by
  have h : ((s.purge l).modLease l fun r => r.vacated).leases[l].queue = s.leases[l].queue := by
    rw [State.modLease_get, if_pos rfl, State.purge_leases]; rfl
  unfold State.lapseComplete
  dsimp only
  rw [h]
  cases hq : s.leases[l].queue with
  | nil => exact .inl ⟨rfl, rfl⟩
  | cons w rest => exact .inr ⟨w, rest, rfl, rfl⟩

/-! ### `executeCommit` -/

@[simp] theorem State.executeCommit_now (s : State) (l : LeaseId) : (s.executeCommit l).now = s.now := by
  simp only [State.executeCommit, State.postHolder_now, State.modLease_now, State.purge_now, State.startStaged_now]
@[simp] theorem State.executeCommit_deadlines (s : State) (l : LeaseId) : (s.executeCommit l).deadlines = s.deadlines := by
  simp only [State.executeCommit, State.postHolder_deadlines, State.modLease_deadlines, State.purge_deadlines, State.startStaged_deadlines]
@[simp] theorem State.executeCommit_haltTaken (s : State) (l : LeaseId) : (s.executeCommit l).haltTaken = s.haltTaken := by
  simp only [State.executeCommit, State.postHolder_haltTaken, State.modLease_haltTaken, State.purge_haltTaken, State.startStaged_haltTaken]
@[simp] theorem State.executeCommit_haltSampled (s : State) (l : LeaseId) : (s.executeCommit l).haltSampled = s.haltSampled := by
  simp only [State.executeCommit, State.postHolder_haltSampled, State.modLease_haltSampled, State.purge_haltSampled, State.startStaged_haltSampled]
@[simp] theorem State.executeCommit_ports (s : State) (l : LeaseId) : (s.executeCommit l).ports = s.ports := by
  simp only [State.executeCommit, State.postHolder_ports, State.modLease_ports, State.purge_ports, State.startStaged_ports]
@[simp] theorem State.executeCommit_arbiter (s : State) (l : LeaseId) : (s.executeCommit l).arbiter = s.arbiter := by
  simp only [State.executeCommit, State.postHolder_arbiter, State.modLease_arbiter, State.purge_arbiter, State.startStaged_arbiter]
@[simp] theorem State.executeCommit_events (s : State) (l : LeaseId) : (s.executeCommit l).events = s.events := by
  simp only [State.executeCommit, State.postHolder_events, State.modLease_events, State.purge_events, State.startStaged_events]
@[simp] theorem State.executeCommit_pending (s : State) (l : LeaseId) : (s.executeCommit l).pending = s.pending := by
  simp only [State.executeCommit, State.postHolder_pending, State.modLease_pending, State.purge_pending, State.startStaged_pending]

theorem State.executeCommit_leases (s : State) (l : LeaseId) :
    (s.executeCommit l).leases = s.leases.set l.val { s.leases[l] with commitPending := false } := by
  simp only [State.executeCommit, State.postHolder_leases, State.modLease_leases, State.purge_leases,
    State.startStaged_leases]

theorem State.executeCommit_channels (s : State) (l : LeaseId) : (s.executeCommit l).channels = (s.startStaged l).channels := by
  simp only [State.executeCommit, State.postHolder_channels, State.modLease_channels, State.purge_channels]

theorem State.executeCommit_slots_get (s : State) (l : LeaseId) (c : ChannelId) :
    (s.executeCommit l).slots[c] = if s.inLease l c then none else s.slots[c] := by
  have h : (s.startStaged l).inLease l c = s.inLease l c :=
    State.inLease_congr (by rw [State.startStaged_leases]) c
  simp only [State.executeCommit, State.postHolder_slots, State.modLease_slots, State.purge_get, h,
    State.startStaged_slots]

/-! ### Commands about a unit -/

@[simp] theorem onLease_val (l : LeaseId) (k : LeaseId → State) : onLease l.val k = .next (k l) := by
  simp [onLease, l.isLt]

@[simp] theorem onChannel_val (c : ChannelId) (k : ChannelId → State) : onChannel c.val k = .next (k c) := by
  simp [onChannel, c.isLt]

@[simp] theorem onPort_val (p : Port) (k : Port → State) : onPort p.val k = .next (k p) := by
  simp [onPort, p.isLt]

theorem onLease_eq_next {n : Nat} {k : LeaseId → State} {t : State} (h : onLease n k = .next t) :
    ∃ l : LeaseId, n = l.val ∧ t = k l := by
  unfold onLease at h
  split at h
  · next hn => exact ⟨⟨n, hn⟩, rfl, by injection h with h; exact h.symm⟩
  · cases h

theorem onChannel_eq_next {n : Nat} {k : ChannelId → State} {t : State} (h : onChannel n k = .next t) :
    ∃ c : ChannelId, n = c.val ∧ t = k c := by
  unfold onChannel at h
  split at h
  · next hn => exact ⟨⟨n, hn⟩, rfl, by injection h with h; exact h.symm⟩
  · cases h

theorem onPort_eq_next {n : Nat} {k : Port → State} {t : State} (h : onPort n k = .next t) :
    ∃ p : Port, n = p.val ∧ t = k p := by
  unfold onPort at h
  split at h
  · next hn => exact ⟨⟨n, hn⟩, rfl, by injection h with h; exact h.symm⟩
  · cases h

/-! ### Takes -/

theorem State.takeEvent_of_due {s : State} {e : Event} (h : e ∈ s.due) (k : State → State) :
    s.takeEvent e k = k (s.dropDue e) := by
  unfold State.takeEvent; rw [if_pos h]

/-- The take of an event takes it where it is due, and else changes nothing. -/
theorem State.takeEvent_cases (s : State) (e : Event) (k : State → State) :
    (e ∈ s.due ∧ s.takeEvent e k = k (s.dropDue e)) ∨ (e ∉ s.due ∧ s.takeEvent e k = s) := by
  unfold State.takeEvent
  by_cases h : e ∈ s.due <;> simp [h]

/-- The arbiter hands over what stands in the port's request slot. -/
theorem State.nextRequest_slot {s : State} {p : Port} {r : Request} (h : s.nextRequest = some (p, r)) :
    s.ports[p].request = some r := by
  unfold State.nextRequest at h
  obtain ⟨q, -, hq⟩ := List.exists_of_findSome?_eq_some h
  obtain ⟨x, hx, he⟩ := Option.map_eq_some_iff.mp hq
  injection he with h1 h2
  subst h1 h2
  exact hx

@[simp] theorem State.answer_refuse (s : State) (p : Port) (tag : Byte) (st : Status) :
    s.answer p tag (.refuse st) = s.respond p st tag [] := rfl

@[simp] theorem State.answer_accept (s t : State) (p : Port) (tag : Byte) (st : Status) (body : List Byte) :
    s.answer p tag (.accept st body t) = t.respond p st tag body := rfl

/-- The take of a request of a code: the arbiter's next request has it and is judged, or is refused BAD_FIELD, or the command takes
nothing. -/
theorem State.takeRequest_cases (s : State) (k : ReqCode) (judge : Port → HostRequest → Judgement) :
    (∃ (p : Port) (r : Request) (q : HostRequest), s.nextRequest = some (p, r) ∧ r.code = k.byte ∧
        decodeBody k r.body = some q ∧ s.takeRequest k judge = s.answer p r.tag (judge p q)) ∨
      (∃ (p : Port) (r : Request), s.nextRequest = some (p, r) ∧ r.code = k.byte ∧ decodeBody k r.body = none ∧
        s.takeRequest k judge = s.respond p .badField r.tag []) ∨
      ((∀ (p : Port) (r : Request), s.nextRequest = some (p, r) → r.code ≠ k.byte) ∧ s.takeRequest k judge = s) := by
  unfold State.takeRequest
  cases hn : s.nextRequest with
  | none => exact .inr (.inr ⟨fun p r h => (by cases h), rfl⟩)
  | some x =>
    obtain ⟨p, r⟩ := x
    by_cases hc : r.code = k.byte
    · cases hd : decodeBody k r.body with
      | some q => exact .inl ⟨p, r, q, rfl, hc, hd, by simp [hc, hd]⟩
      | none => exact .inr (.inl ⟨p, r, rfl, hc, hd, by simp [hc, hd]⟩)
    · exact .inr (.inr ⟨fun p' r' h => (by cases h; exact hc), by simp [hc]⟩)

/-- A run of checks answers with the first that fails, or goes on with none failing. -/
theorem checked_cases (checks : List (Bool × Status)) (k : Judgement) :
    (∃ st : Status, firstFailure checks = some st ∧ checked checks k = .refuse st) ∨
      (firstFailure checks = none ∧ checked checks k = k) := by
  unfold checked
  cases h : firstFailure checks with
  | some st => exact .inl ⟨st, rfl, rfl⟩
  | none => exact .inr ⟨rfl, rfl⟩

theorem firstFailure_eq_none {checks : List (Bool × Status)} :
    firstFailure checks = none ↔ ∀ c ∈ checks, c.1 = false := by
  induction checks with
  | nil => simp [firstFailure]
  | cons c rest ih =>
    obtain ⟨b, st⟩ := c
    cases b <;> simp [firstFailure, ih]

end Sys2Proof.Machine
end

