-- ==== Sys2Proof/Laws/Codes.lean ====
section
/-! SUPPORT. Every one-field encoding reads back as what was written, and writes back as what was read (R160 to R162). -/

namespace Sys2Proof

@[simp] theorem wordOf_bytes (w : Word16) : wordOf (w.extractLsb' 8 8) (w.extractLsb' 0 8) = w := by
  unfold wordOf
  ext i hi
  simp only [BitVec.getElem_append, BitVec.getElem_extractLsb']
  split
  · simp [BitVec.getLsbD_eq_getElem hi]
  · next h =>
    have : 8 + (i - 8) = i := by omega
    simp [this, BitVec.getLsbD_eq_getElem hi]

@[simp] theorem wordBytes_wordOf (hi lo : Byte) : wordBytes (wordOf hi lo) = [hi, lo] := by
  have h1 : (hi ++ lo).extractLsb' 8 8 = hi := by
    ext i h
    simp only [BitVec.getElem_extractLsb', BitVec.getLsbD_append]
    simp [BitVec.getLsbD_eq_getElem h]
  have h0 : (hi ++ lo).extractLsb' 0 8 = lo := by
    ext i h
    simp only [BitVec.getElem_extractLsb', BitVec.getLsbD_append]
    simp [h]
  simp only [wordBytes, wordOf, h1, h0]

@[simp] theorem nibbleOf_nibbleByte (n : Fin 16) : nibbleOf (nibbleByte n) = some n := by revert n; decide

theorem nibbleByte_of_nibbleOf {b : Byte} {n : Fin 16} (h : nibbleOf b = some n) : nibbleByte n = b := by
  unfold nibbleOf at h
  split at h
  · injection h with h; subst h; simp [nibbleByte]
  · cases h

@[simp] theorem waitOf_flagByte (b : Bool) : waitOf (flagByte b) = some b := by revert b; decide

theorem flagByte_of_waitOf {b : Byte} {w : Bool} (h : waitOf b = some w) : flagByte w = b := by
  unfold waitOf at h
  split at h
  · injection h with h; subst h; simp_all [flagByte]
  · split at h
    · injection h with h; subst h; simp_all [flagByte]
    · cases h

@[simp] theorem Mode.ofByte_byte (m : Mode) : Mode.ofByte m.byte = some m := by cases m <;> decide

@[simp] theorem Divider.ofByte_byte (d : Divider) : Divider.ofByte d.byte = some d := by cases d <;> decide

@[simp] theorem Polarity.ofByte_byte (p : Polarity) : Polarity.ofByte p.byte = some p := by cases p <;> decide

@[simp] theorem ParkAction.ofByte_byte (a : ParkAction) : ParkAction.ofByte a.byte = some a := by cases a <;> decide

@[simp] theorem ParkTiming.ofByte_byte (t : ParkTiming) : ParkTiming.ofByte t.byte = some t := by cases t <;> decide

@[simp] theorem HaltGroup.ofByte_byte (g : HaltGroup) : HaltGroup.ofByte g.byte = some g := by cases g <;> decide

@[simp] theorem Target.ofByte_byte (t : Target) : Target.ofByte t.byte = some t := by
  cases t with
  | port p => revert p; decide
  | next => decide

@[simp] theorem ReqCode.ofByte_byte (k : ReqCode) : ReqCode.ofByte k.byte = some k := by cases k <;> decide

theorem Mode.byte_of_ofByte {b : Byte} {m : Mode} (h : Mode.ofByte b = some m) : m.byte = b := by
  unfold Mode.ofByte at h
  repeat' split at h
  all_goals cases h
  all_goals simp_all [Mode.byte]

theorem Divider.byte_of_ofByte {b : Byte} {d : Divider} (h : Divider.ofByte b = some d) : d.byte = b := by
  have := List.find?_some h
  simpa using this

theorem Polarity.byte_of_ofByte {b : Byte} {p : Polarity} (h : Polarity.ofByte b = some p) : p.byte = b := by
  unfold Polarity.ofByte at h
  repeat' split at h
  all_goals cases h
  all_goals simp_all [Polarity.byte]

theorem ParkAction.byte_of_ofByte {b : Byte} {a : ParkAction} (h : ParkAction.ofByte b = some a) : a.byte = b := by
  unfold ParkAction.ofByte at h
  repeat' split at h
  all_goals cases h
  all_goals simp_all [ParkAction.byte]

theorem ParkTiming.byte_of_ofByte {b : Byte} {t : ParkTiming} (h : ParkTiming.ofByte b = some t) : t.byte = b := by
  unfold ParkTiming.ofByte at h
  repeat' split at h
  all_goals cases h
  all_goals simp_all [ParkTiming.byte]

theorem HaltGroup.byte_of_ofByte {b : Byte} {g : HaltGroup} (h : HaltGroup.ofByte b = some g) : g.byte = b := by
  unfold HaltGroup.ofByte at h
  repeat' split at h
  all_goals cases h
  all_goals simp_all [HaltGroup.byte]

theorem Target.byte_of_ofByte {b : Byte} {t : Target} (h : Target.ofByte b = some t) : t.byte = b := by
  unfold Target.ofByte at h
  split at h
  · injection h with h; subst h; simp [Target.byte, portByte]
  · split at h
    · injection h with h; subst h; simp_all [Target.byte]
    · cases h

theorem ReqCode.byte_of_ofByte {b : Byte} {k : ReqCode} (h : ReqCode.ofByte b = some k) : k.byte = b := by
  have := List.find?_some h
  simpa using this

/-- No two request codes share a byte (R160). -/
theorem ReqCode.byte_injective {j k : ReqCode} (h : j.byte = k.byte) : j = k := by
  have := ReqCode.ofByte_byte j
  rw [h, ReqCode.ofByte_byte] at this
  injection this with this
  exact this.symm

end Sys2Proof
end

