-- ==== Sys2Proof/Tests/Slice0.lean ====
section
/-! SUPPORT. Tests on fixed values, each from the spec's text or worked out by hand from it, and one named witness for the
hypotheses of each statement (several where its clauses have different ones). -/

namespace Sys2Proof.Tests

open Sys2Proof.Machine Sys2Proof.Claims

/-! ### Well-formedness and field ranges: each check refuses an ill-formed term -/

theorem test_wf_term_expiry_of_lease_16 : (Instr.termExpiry 16).wellFormed = false := by decide

theorem test_wf_grace_expiry_of_lease_16 : (Instr.graceExpiry 16).wellFormed = false := by decide

theorem test_wf_period_end_of_channel_16 : (Instr.periodEnd 16).wellFormed = false := by decide

theorem test_wf_period_end_take_of_channel_16 : (Instr.periodEndTake 16).wellFormed = false := by decide

theorem test_wf_count_of_channel_16 : (Instr.count 16).wellFormed = false := by decide

theorem test_wf_port_4 :
    (Instr.presentFall 4).wellFormed = false ∧ (Instr.departure 4).wellFormed = false ∧
      (Instr.portReturn 4).wellFormed = false ∧ (Instr.csFall 4).wellFormed = false ∧
      (Instr.csRise 4 []).wellFormed = false := by decide

theorem test_wf_highest_units :
    (Instr.termExpiry 15).wellFormed = true ∧ (Instr.count 15).wellFormed = true ∧ (Instr.csRise 3 []).wellFormed = true := by
  decide

/-- A definition of CH0 and CH1 with lead CH0, as in section 10.1. -/
def pairDef : LeaseDef := { channels := 0x0003, lead := 0, termMin := 100, termMax := 2000, grace := 50 }

theorem test_range_lead_outside_set : ({ pairDef with lead := 2 } : LeaseDef).inRange = false := by decide

theorem test_range_term_min_9 : ({ pairDef with termMin := 9 } : LeaseDef).inRange = false := by decide

theorem test_range_term_max_30001 : ({ pairDef with termMax := 30001 } : LeaseDef).inRange = false := by decide

theorem test_range_max_below_min : ({ pairDef with termMax := 99 } : LeaseDef).inRange = false := by decide

theorem test_range_grace_1001 : ({ pairDef with grace := 1001 } : LeaseDef).inRange = false := by decide

theorem test_range_limits : ({ pairDef with termMin := 10, termMax := 30000, grace := 1000 } : LeaseDef).inRange = true := by
  decide

/-- EDGE, period 10, width 4. -/
def edgeSet : ParamSet := { mode := .edge, divider := .d1, period := 10, width := 4, phase := 0, polarity := .activeHigh }

theorem test_range_period_1 : ({ edgeSet with period := 1 } : ParamSet).valid = false := by decide

theorem test_range_phase_at_period : ({ edgeSet with phase := 10 } : ParamSet).valid = false := by decide

theorem test_range_renew_term_9 : (HostRequest.renew 0 1 9).inRange = false := by decide

theorem test_range_park_of_no_channel : (HostRequest.park 0 1 0).inRange = false := by decide

/-! ### Frames and bodies, byte by byte from chapter 9 -/

set_option maxRecDepth 10000 in
/-- The EMPTY frame (R125, R158, R159): its CRC worked out by hand. -/
theorem test_empty_frame : frameOf 0x10 0x00 [] = [0x10, 0x00, 0x00, 0x89] := by decide

/-- The example of chapter 9: P3 asks for L6 with a term of 500 ticks and wait 1. -/
theorem test_acquire_body : decodeBody .acquire [0x06, 0x01, 0xF4, 0x01] = some (.acquire 6 500 true) := by decide

theorem test_acquire_code : ReqCode.ofByte 0x10 = some .acquire ∧ ReqCode.ofByte 0x19 = none := by decide

theorem test_acquire_body_length : decodeBody .acquire [0x06, 0x01, 0xF4, 0x01, 0x00] = none := by decide

theorem test_define_body :
    decodeBody .define [0x00, 0x00, 0x03, 0x00, 0x00, 0x64, 0x07, 0xD0, 0x00, 0x32] = some (.define 0 pairDef) := by decide

theorem test_stage_body :
    decodeBody .stage [0x0F, 0x00, 0x02, 0x0E, 0x01, 0x08, 0x03, 0xE8, 0x01, 0x90, 0x00, 0x07, 0x01] =
      some (.stage 15 2 14
        { mode := .centre, divider := .d256, period := 1000, width := 400, phase := 7, polarity := .activeLow }) := by decide

theorem test_transfer_next : decodeBody .transfer [0x02, 0x00, 0x05, 0x80] = some (.transfer 2 5 .next) := by decide

theorem test_transfer_port_4 : decodeBody .transfer [0x02, 0x00, 0x05, 0x04] = none := by decide

theorem test_configure_halt_group_4 : decodeBody .configureChannel [0x00, 0x00, 0x00, 0x04] = none := by decide

theorem test_configure_both : decodeBody .configureChannel [0x0F, 0x03, 0x01, 0x03] =
    some (.configureChannel 15 .parkHold .atPeriodEnd .both) := by decide

theorem test_no_word_spells_a_command : decodeTableWord 16 0x1604 = none := by decide

/-! ### Small states -/

/-- The state a command answers with. -/
def after (o : Answer) : State :=
  match o with
  | .next t => t
  | _ => State.reset

/-- `s` with a request of port `p` placed. -/
def placed (s : State) (p : Port) (tag : Byte) (q : HostRequest) : State :=
  s.modPort p fun pr => { pr with request := some { code := q.code.byte, tag := tag, body := q.body }, response := .waiting }

/-- `s` with one event raised and not yet taken. -/
def raised (s : State) (e : Event) : State := { s with events := [[e]] }

/-- L0 VACANT with CH0 and CH1, never granted. -/
def vacantState : State :=
  { State.reset with
    leases := State.reset.leases.set 0 { Lease.afterReset with state := .vacant, defn := some pairDef }
    channels := (State.reset.channels.set 0 { Channel.afterReset with lease := some 0 }).set 1
      { Channel.afterReset with lease := some 0 } }

/-- L0 HELD by P1 under epoch 1, P2 waiting; CH0, its lead, RUNNING with park timing AT_PERIOD_END; a set staged for CH1. -/
def heldState : State :=
  { vacantState with
    leases := State.reset.leases.set 0
      { Lease.afterReset with
        state := .held, defn := some pairDef, holder := some 1, term := some 1000, epoch := 1,
        queue := [{ port := 2, term := 300 }] }
    deadlines := State.reset.deadlines.set 0 (some { kind := .term, tick := 1000 })
    slots := State.reset.slots.set 1 (some { params := edgeSet, tag := 1 })
    channels := vacantState.channels.set 0
      { Channel.afterReset with
        state := .running, lease := some 0, parkTiming := .atPeriodEnd, active := some edgeSet, level := .high } }

/-- The same lease in GRACE. -/
def graceState : State :=
  { heldState with
    leases := heldState.leases.set 0 { heldState.leases[(0 : LeaseId)] with state := .grace }
    deadlines := heldState.deadlines.set 0 (some { kind := .grace, tick := 50 }) }

/-- The same lease LAPSING, its lead PARKING. -/
def lapsingState : State :=
  { heldState with
    leases := heldState.leases.set 0
      { heldState.leases[(0 : LeaseId)] with
        state := .lapsing, departing := true, term := none, reason := some .released }
    deadlines := State.reset.deadlines
    slots := State.reset.slots
    channels := heldState.channels.set 0 { heldState.channels[(0 : ChannelId)] with state := .parking } }

/-- The same lease HELD with a commit pending. -/
def pendingState : State :=
  heldState.modLease 0 fun r => { r with commitPending := true }

/-- `s` with CH0 at a count of a set, in a direction. -/
def counts (s : State) (ps : ParamSet) (counter : Word16) (dir : Direction) : State :=
  s.modChannel 0 fun ch => { ch with active := some ps, counter := counter, direction := dir, level := countLevel ps counter }

/-- `s` with CH0 under its first hold, its period-end event waiting. -/
def underHold (s : State) (ps : ParamSet) : State :=
  raised
    (s.modChannel 0 fun ch => { ch with active := some ps, hold := true, holdSerial := 1, level := holdLevel ps })
    (.periodEnd 0 1)

/-- `s` with CH0 in halt group H0 and the assertion of HALT0_N waiting. -/
def halting (s : State) : State :=
  raised { (s.modChannel 0 fun ch => { ch with haltGroup := .h0 }) with haltSampled := { h0 := true, h1 := false } }
    (.haltChange .h0 true)

/-- CH1 halted by HALT0_N, and its release waiting. -/
def releasing : State :=
  raised
    { (heldState.modChannel 1 fun ch => { ch with haltGroup := .h0, halted := true }) with
      haltTaken := { h0 := true, h1 := false } }
    (.haltChange .h0 false)

/-- P1 LEAVING, its departure waiting. -/
def leaving (s : State) : State :=
  raised (s.modPort 1 fun pr => { pr with presence := .leaving, line := false }) (.departure 1)

/-- L0 HELD as in `heldState`, its lead with park timing AT_ONCE. -/
def atOnceState : State := heldState.modChannel 0 fun ch => { ch with parkTiming := .atOnce }

/-- CENTRE, period 10, width 4. -/
def centreSet : ParamSet := { edgeSet with mode := .centre }

/-- SINGLE, period 10, width 4. -/
def singleSet : ParamSet := { edgeSet with mode := .single }

theorem lawful_heldState : heldState.Lawful := by constructor <;> decide

theorem lawful_graceState : graceState.Lawful := by constructor <;> decide

theorem lawful_lapsingState : lapsingState.Lawful := by constructor <;> decide

theorem lawful_pendingState : pendingState.Lawful := by constructor <;> decide

theorem lawful_halting : (halting heldState).Lawful := by constructor <;> decide

theorem lawful_halting_lapsing : (halting lapsingState).Lawful := by constructor <;> decide

theorem lawful_leaving : (leaving heldState).Lawful := by constructor <;> decide

theorem lawful_halting_pending : (halting pendingState).Lawful := by constructor <;> decide

theorem lawful_leaving_at_once : (leaving atOnceState).Lawful := by constructor <;> decide

theorem lawful_releasing : releasing.Lawful := by constructor <;> decide

/-! ### One step each, from the worked sequences and tables of the spec -/

/-- The answer standing in a port's response slot, as status and body. -/
def answerOf (s : State) (p : Port) : Option (Status × List Byte) :=
  match s.ports[p].response with
  | .ready a => some (a.status, a.body)
  | _ => none

/-- 10.1: ACQUIRE of a VACANT lease with epoch 0 is granted epoch 1. -/
theorem test_acquire_vacant :
    answerOf (after (exec .acquire (placed vacantState 1 7 (.acquire 0 1000 true)))) 1 = some (.ok, [0, 1]) ∧
      (after (exec .acquire (placed vacantState 1 7 (.acquire 0 1000 true)))).leases[(0 : LeaseId)].holder = some 1 := by
  decide

/-- 10.1: P3 queues behind P2 at position 2. -/
theorem test_acquire_queues : answerOf (after (exec .acquire (placed heldState 3 7 (.acquire 0 500 true)))) 3 =
    some (.queued, [2]) := by decide

/-- 10.1: RELEASE with CH0 RUNNING under AT_PERIOD_END leaves one channel PARKING. -/
theorem test_release_counts_parking : answerOf (after (exec .release (placed heldState 1 7 (.release 0 1)))) 1 =
    some (.ok, [1]) := by decide

/-- 10.1: the take of CH0's period end parks it LOW and hands L0 to P2 under epoch 2 with term 300. -/
theorem test_period_end_take_hands_on :
    (after (exec (.periodEndTake 0) (underHold lapsingState edgeSet))).leases[(0 : LeaseId)] =
      { heldState.leases[(0 : LeaseId)] with holder := some 2, term := some 300, epoch := 2, queue := [] } := by decide

/-- 10.1: a RENEW by a port that is not the holder is refused before its epoch is looked at. -/
theorem test_renew_not_holder : answerOf (after (exec .renew (placed heldState 2 7 (.renew 0 9 0)))) 2 =
    some (.notHolder, []) := by decide

/-- R50: RENEW in GRACE answers OK_LATE with the term in force. -/
theorem test_renew_late : answerOf (after (exec .renew (placed graceState 1 7 (.renew 0 1 0)))) 1 =
    some (.okLate, [0x03, 0xE8]) := by decide

/-- R14: 65,535 is followed by 1. -/
theorem test_epoch_wraps : nextEpoch 65535 = 1 ∧ nextEpoch 0 = 1 ∧ nextEpoch 65534 = 65535 := by decide

/-- R76: EDGE wraps from period - 1 to 0. -/
theorem test_edge_wraps : (after (exec (.count 0) (counts heldState edgeSet 9 .up))).channels[(0 : ChannelId)].counter = 0 := by
  decide

/-- R77: CENTRE turns at the period. -/
theorem test_centre_turns :
    (after (exec (.count 0) (counts heldState centreSet 10 .up))).channels[(0 : ChannelId)].counter = 9 ∧
      (after (exec (.count 0) (counts heldState centreSet 10 .up))).channels[(0 : ChannelId)].direction = .down := by decide

/-- R80: a SINGLE channel's hold drives the inactive level. -/
theorem test_single_holds_inactive :
    (after (exec (.periodEnd 0) (counts heldState singleSet 9 .up))).channels[(0 : ChannelId)].level = .low ∧
      (after (exec (.periodEnd 0) (counts heldState singleSet 9 .up))).events = [[.periodEnd 0 1]] := by decide

/-- R97: a RUNNING lead makes the commit pending; one channel is staged. -/
theorem test_commit_pends : answerOf (after (exec .commit (placed heldState 1 7 (.commit 0 1)))) 1 = some (.ok, [1, 1]) := by
  decide

/-- R111, R102: PARK of the lead executes the pending commit. -/
theorem test_park_lead_commits :
    answerOf (after (exec .park (placed pendingState 1 7 (.park 0 1 1)))) 1 = some (.ok, [1, 1]) ∧
      (after (exec .park (placed pendingState 1 7 (.park 0 1 1)))).channels[(1 : ChannelId)].state = .running := by decide

/-- R63: REVOKE hands the lease to P2 under epoch 2. -/
theorem test_revoke_hands_on : answerOf (after (exec .revoke (placed heldState 0 7 (.revoke 0)))) 0 =
    some (.ok, [2, 2, 0, 2]) := by decide

/-- R65: one defined lease is reset. -/
theorem test_reset_leases : answerOf (after (exec .resetLeases (placed heldState 0 7 .resetLeases))) 0 = some (.ok, [1]) := by
  decide

/-- R116: a halt of the lead cancels the pending commit and tells P1 so: kinds COMMIT_CANCELLED and HALTED. -/
theorem test_halt_cancels :
    ((after (exec (.haltAssertion .h0) (halting pendingState))).notices[(1 : Port)][(0 : LeaseId)].map Notice.kinds) =
      some 0x030#9 := by decide

set_option maxRecDepth 4000 in
/-- R136: the departed port is ABSENT and its lease LAPSING with reason DEPARTED. -/
theorem test_departure :
    (after (exec (.departure 1) (leaving heldState))).ports[(1 : Port)].presence = .absent ∧
      (after (exec (.departure 1) (leaving heldState))).leases[(0 : LeaseId)].reason = some .departed := by decide

/-- R166: QUERY_LEASE of L0 HELD by P1. -/
theorem test_query_lease : heldState.leaseBody 0 =
    [2, 1, 4, 0, 1, 1, 0x03, 0xE8, 0x03, 0xE8, 0, 100, 0x07, 0xD0, 0, 50, 0, 3, 0, 0, 1, 2, 0x01, 0x2C, 0xFF, 0, 0, 0xFF,
     0, 0, 0xFF, 0, 0] := by decide

/-- R167: QUERY_DEVICE after reset. -/
theorem test_query_device : State.reset.deviceBody = [0x16, 0x04, 0x01, 0, 0, 0, 0, 1, 1, 1, 1, 0, 0, 0, 0] := by decide

/-- R132: the first search begins at P0. -/
theorem test_first_search : (placed (placed State.reset 0 1 .queryDevice) 1 2 .queryDevice).nextRequest.map Prod.fst =
    some 0 := by decide

/-! ### Witnesses: states and operands that meet a statement's hypotheses -/

theorem witness_StepRunsFrontCommand :
    ({ State.reset with pending := [.tick, .queryDevice] } : State).pending = .tick :: [.queryDevice] ∧
      State.reset.pending = [] := by decide

theorem witness_WellFormedCommandsCompleteOthersFault :
    (Instr.csRise 3 [true]).wellFormed = true ∧ (Instr.periodEndTake 15).wellFormed = true ∧ 16 ≤ 16 ∧ 4 ≤ 4 := by decide

theorem witness_TakesWithoutTheirOccasionChangeNothing :
    Event.expiry 15 .term ∉ State.reset.due ∧ Event.expiry 0 .grace ∉ State.reset.due ∧
      Event.haltChange .h0 true ∉ State.reset.due ∧ Event.haltChange .h1 false ∉ State.reset.due ∧
      Event.departure 3 ∉ State.reset.due := by decide

theorem witness_no_period_end_due : ∀ n : Nat, Event.periodEnd 15 n ∉ State.reset.due := by
  intro n h; simp [State.due, State.reset, State.afterReset] at h

theorem witness_no_request_next : ∀ (p : Port) (r : Request), ¬NextIs State.reset .define p r := by
  intro p r h
  have hn : State.reset.nextRequest = none := by decide
  cases hn.symm.trans h.1

theorem witness_known_request_next (p : Port) (r : Request)
    (h : (placed State.reset 0 7 .queryDevice).nextRequest = some (p, r)) : ∃ k : ReqCode, r.code = k.byte := by
  have hn : (placed State.reset 0 7 .queryDevice).nextRequest =
      some (0, { code := 0x33, tag := 7, body := [] }) := by decide
  rw [hn] at h
  cases h
  exact ⟨.queryDevice, rfl⟩

theorem witness_RequestBodiesDecodeBack :
    (HostRequest.define 15 { pairDef with termMin := 10, termMax := 30000, grace := 1000 }).inRange = true ∧
      (HostRequest.renew 0 65535 0).inRange = true ∧ (HostRequest.park 0 1 0xFFFF).inRange = true ∧
      (HostRequest.stage 0 1 15 { edgeSet with period := 2, phase := 1 }).inRange = true := by decide

theorem witness_DecodedBodiesEncodeBack :
    decodeBody .queryChannel [0x0F] = some (.queryChannel 15) ∧
      decodeBody .park [0, 0, 1, 0x80, 0x00] = some (.park 0 1 0x8000) := by decide

set_option maxRecDepth 20000 in
/-- A NOTICES request frame, 4 bytes long, reads as its request. -/
theorem witness_FrameCheckIsTheCrcAndLeavesZero :
    readInward (frameOf 0x30 5 []) = .valid { code := 0x30, tag := 5, body := [] } := by decide

theorem witness_ClockedFramesTravelBothWays :
    (0x30 : Byte) ≠ 0 ∧ (List.replicate 60 (0xA5 : Byte)).length ≤ 60 ∧ ([] : List Byte).length ≤ 60 ∧
      ([0, 1, 2] : List Byte).head? = some 0 ∧ (List.replicate 7 true).length < 8 := by decide

theorem witness_FrameIsValidByItsThreeChecks : (0x01 : Byte) ≠ 0 ∧ (0xFF : Byte) ≠ 0 := by decide

theorem witness_TermExpiryEntersGraceOrLapses :
    Event.expiry 0 .term ∈ (raised heldState (.expiry 0 .term)).due ∧
      (raised heldState (.expiry 0 .term)).leases[(0 : LeaseId)].defn = some pairDef ∧ pairDef.grace ≠ 0 ∧
      (raised heldState (.expiry 0 .term)).leases[(0 : LeaseId)].holder = some 1 := by decide

/-- The same with grace 0. -/
theorem witness_term_expiry_grace_0 :
    Event.expiry 0 .term ∈
        (raised (heldState.modLease 0 fun r => { r with defn := some { pairDef with grace := 0 } }) (.expiry 0 .term)).due ∧
      (raised (heldState.modLease 0 fun r => { r with defn := some { pairDef with grace := 0 } })
        (.expiry 0 .term)).leases[(0 : LeaseId)].defn = some { pairDef with grace := 0 } ∧
      (raised (heldState.modLease 0 fun r => { r with defn := some { pairDef with grace := 0 } })
        (.expiry 0 .term)).leases[(0 : LeaseId)].holder = some 1 := by decide

theorem witness_GraceExpiryLapsesTheLease :
    Event.expiry 0 .grace ∈ (raised graceState (.expiry 0 .grace)).due ∧
      (raised graceState (.expiry 0 .grace)).leases[(0 : LeaseId)].holder = some 1 := by decide

/-- A RUNNING channel of L0, whose commit is not pending, leads no pending commit. -/
theorem held_leads_nothing (l : LeaseId) : ¬LeadsPending heldState 0 l := by revert l; decide

/-- COUNT: in the middle of a period, at its last count unreported, going up, at the top and going down in CENTRE. -/
theorem witness_CountFollowsTheMode :
    (counts heldState edgeSet 3 .up).channels[(0 : ChannelId)].active = some edgeSet ∧
      Counting (counts heldState edgeSet 3 .up).channels[(0 : ChannelId)] ∧
      ¬AtLastCount (counts heldState edgeSet 3 .up).channels[(0 : ChannelId)] edgeSet ∧
      AtLastCount (counts heldState edgeSet 9 .up).channels[(0 : ChannelId)] edgeSet ∧
      ¬Reported (counts heldState edgeSet 9 .up) 0 edgeSet ∧
      ¬AtLastCount (counts heldState centreSet 5 .up).channels[(0 : ChannelId)] centreSet ∧
      (counts heldState centreSet 10 .up).channels[(0 : ChannelId)].counter = centreSet.period ∧
      ¬AtLastCount (counts heldState centreSet 2 .down).channels[(0 : ChannelId)] centreSet := by decide

theorem witness_count_of_a_held_channel :
    (underHold heldState singleSet).channels[(0 : ChannelId)].active = some singleSet ∧
      ¬Counting (underHold heldState singleSet).channels[(0 : ChannelId)] ∧
      AtLastCount (counts heldState singleSet 9 .up).channels[(0 : ChannelId)] singleSet ∧
      Reported (counts heldState singleSet 9 .up) 0 singleSet := by decide

theorem witness_EdgeChannelRunsItsPeriods :
    heldState.channels[(0 : ChannelId)].active = some edgeSet ∧ edgeSet.mode = .edge ∧ edgeSet.valid = true ∧
      heldState.channels[(0 : ChannelId)].state = .running ∧ heldState.channels[(0 : ChannelId)].hold = false ∧
      heldState.channels[(0 : ChannelId)].counter = 0 ∧ heldState.channels[(0 : ChannelId)].direction = .up ∧
      heldState.channels[(0 : ChannelId)].level = levelAt edgeSet 0 ∧ ∀ l : LeaseId, ¬LeadsPending heldState 0 l := by decide

theorem witness_CentreChannelRunsItsPeriods :
    (counts heldState centreSet 0 .up).channels[(0 : ChannelId)].active = some centreSet ∧ centreSet.mode = .centre ∧
      centreSet.valid = true ∧ (counts heldState centreSet 0 .up).channels[(0 : ChannelId)].state = .running ∧
      (counts heldState centreSet 0 .up).channels[(0 : ChannelId)].hold = false ∧
      (counts heldState centreSet 0 .up).channels[(0 : ChannelId)].counter = 0 ∧
      (counts heldState centreSet 0 .up).channels[(0 : ChannelId)].direction = .up ∧
      (counts heldState centreSet 0 .up).channels[(0 : ChannelId)].level = levelAt centreSet 0 ∧
      (∀ l : LeaseId, ¬LeadsPending (counts heldState centreSet 0 .up) 0 l) ∧ 20 % (2 * centreSet.period.toNat) = 0 := by
  decide

/-- A reported period end of a lead with a pending commit, and one that is not reported. -/
theorem witness_ReportedPeriodEndHoldsChannel :
    (counts pendingState edgeSet 9 .up).channels[(0 : ChannelId)].active = some edgeSet ∧ edgeSet.valid = true ∧
      Counting (counts pendingState edgeSet 9 .up).channels[(0 : ChannelId)] ∧
      AtLastCount (counts pendingState edgeSet 9 .up).channels[(0 : ChannelId)] edgeSet ∧
      Reported (counts pendingState edgeSet 9 .up) 0 edgeSet ∧ ¬Reported (counts heldState edgeSet 9 .up) 0 edgeSet ∧
      Counting (counts heldState edgeSet 9 .up).channels[(0 : ChannelId)] := by decide

theorem witness_PeriodEndTakeIgnoresEndedHoldsAndParks :
    (raised heldState (.periodEnd 0 1)).duePeriodEnd 0 = some 1 ∧
      ¬((raised heldState (.periodEnd 0 1)).channels[(0 : ChannelId)].hold = true ∧
        (raised heldState (.periodEnd 0 1)).channels[(0 : ChannelId)].holdSerial = 1) ∧
      (underHold lapsingState edgeSet).duePeriodEnd 0 = some 1 ∧
      (underHold lapsingState edgeSet).channels[(0 : ChannelId)].hold = true ∧
      (underHold lapsingState edgeSet).channels[(0 : ChannelId)].holdSerial = 1 ∧
      (underHold lapsingState edgeSet).channels[(0 : ChannelId)].state = .parking ∧
      (underHold lapsingState edgeSet).channels[(0 : ChannelId)].lease = some 0 := by decide

/-- The lead of a pending commit under its hold, EDGE and SINGLE, without a staged set. -/
theorem witness_BoundaryExecutesThePendingCommit :
    (underHold pendingState edgeSet).duePeriodEnd 0 = some 1 ∧
      (underHold pendingState edgeSet).channels[(0 : ChannelId)].hold = true ∧
      (underHold pendingState edgeSet).channels[(0 : ChannelId)].holdSerial = 1 ∧
      (underHold pendingState edgeSet).channels[(0 : ChannelId)].state = .running ∧
      LeadsPending (underHold pendingState edgeSet) 0 0 ∧ (underHold pendingState edgeSet).inLease 0 0 = true ∧
      (underHold pendingState edgeSet).channels[(0 : ChannelId)].active = some edgeSet ∧
      (underHold pendingState edgeSet).leases[(0 : LeaseId)].holder = some 1 ∧
      (underHold pendingState edgeSet).slots[(0 : ChannelId)] = none ∧
      LeadsPending (underHold pendingState singleSet) 0 0 ∧ singleSet.mode = .single := by decide

/-- The same with a set staged for the lead. -/
theorem witness_boundary_with_staged_lead :
    LeadsPending (underHold (pendingState.setSlot 0 (some { params := edgeSet, tag := 1 })) edgeSet) 0 0 ∧
      (underHold (pendingState.setSlot 0 (some { params := edgeSet, tag := 1 })) edgeSet).slots[(0 : ChannelId)].isSome = true ∧
      (underHold (pendingState.setSlot 0 (some { params := edgeSet, tag := 1 })) edgeSet).duePeriodEnd 0 = some 1 := by decide

theorem witness_SingleChannelEndsOthersCountOn :
    (underHold heldState singleSet).duePeriodEnd 0 = some 1 ∧
      (underHold heldState singleSet).channels[(0 : ChannelId)].hold = true ∧
      (underHold heldState singleSet).channels[(0 : ChannelId)].holdSerial = 1 ∧
      (underHold heldState singleSet).channels[(0 : ChannelId)].state = .running ∧
      (underHold heldState singleSet).channels[(0 : ChannelId)].lease = some 0 ∧
      ¬LeadsPending (underHold heldState singleSet) 0 0 ∧
      (underHold heldState singleSet).channels[(0 : ChannelId)].active = some singleSet ∧
      (underHold heldState singleSet).leases[(0 : LeaseId)].holder = some 1 := by decide

theorem witness_HaltAssertionMarksParksAndCancels :
    (halting heldState).Lawful ∧ .haltChange .h0 true ∈ (halting heldState).due ∧
      (halting heldState).leases[(0 : LeaseId)].live = true ∧ NewlyHalted (halting heldState) .h0 0 ∧
      groupHas (halting heldState).channels[(1 : ChannelId)].haltGroup .h0 = false :=
  ⟨lawful_halting, by decide, by decide, by decide, by decide⟩

/-- The same with a commit pending. -/
theorem witness_halt_of_a_pending_commit :
    (halting pendingState).Lawful ∧ .haltChange .h0 true ∈ (halting pendingState).due ∧
      NewlyHalted (halting pendingState) .h0 0 ∧ (halting pendingState).leases[(0 : LeaseId)].commitPending = true :=
  ⟨lawful_halting_pending, by decide, by decide, by decide⟩

/-- A LAPSING lease whose last PARKING channel the take parks. -/
theorem witness_halt_completes_a_lapse :
    (halting lapsingState).Lawful ∧ .haltChange .h0 true ∈ (halting lapsingState).due ∧
      HaltCompletes (halting lapsingState) .h0 0 ∧
      (halting lapsingState).leases[(0 : LeaseId)].queue.head?.map Waiter.port = some 2 :=
  ⟨lawful_halting_lapsing, by decide, by decide, by decide⟩

theorem witness_HaltReleaseClearsMarks :
    .haltChange .h0 false ∈ releasing.due ∧ releasing.leases[(0 : LeaseId)].live = true ∧
      releasing.leases[(0 : LeaseId)].holder = some 1 ∧ releasing.channels[(1 : ChannelId)].halted = true ∧
      releasing.inLease 0 1 = true := by decide

theorem witness_PresenceLinesMoveThePort :
    State.reset.ports[(3 : Port)].presence = .present ∧ (leaving heldState).ports[(1 : Port)].presence ≠ .present := by decide

theorem witness_DepartureEndsAllThePortHeld :
    (leaving heldState).Lawful ∧ .departure 1 ∈ (leaving heldState).due ∧
      (leaving heldState).leases[(0 : LeaseId)].heldBy 1 = true ∧
      LeavesParking (leaving heldState) 0 .departed ∧ (leaving heldState).leases[(1 : LeaseId)].heldBy 1 = false :=
  ⟨lawful_leaving, by decide, by decide, by decide, by decide⟩

/-- A departure that completes the lapse and hands the lease to P2. -/
theorem witness_departure_hands_on :
    (leaving atOnceState).Lawful ∧ .departure 1 ∈ (leaving atOnceState).due ∧
      (leaving atOnceState).leases[(0 : LeaseId)].heldBy 1 = true ∧ ¬LeavesParking (leaving atOnceState) 0 .departed ∧
      (leaving atOnceState).leases[(0 : LeaseId)].queue.head?.map Waiter.port = some 2 :=
  ⟨lawful_leaving_at_once, by decide, by decide, by decide, by decide⟩

theorem witness_ChipSelectFallFixesTheOutwardFrame :
    State.reset.ports[(0 : Port)].selected = false ∧ State.reset.ports[(0 : Port)].presence = .present ∧
      State.reset.ports[(0 : Port)].response = .empty ∧
      (placed State.reset 1 7 .queryDevice).ports[(1 : Port)].response = .waiting ∧
      (placed State.reset 1 7 .queryDevice).ports[(1 : Port)].request = some { code := 0x33, tag := 7, body := [] } ∧
      (answered State.reset 2 7 .busy []).ports[(2 : Port)].response = .ready { status := .busy, tag := 7, body := [] } ∧
      (leaving State.reset).ports[(1 : Port)].selected = false ∧ (leaving State.reset).ports[(1 : Port)].presence ≠ .present := by
  decide

/-- A port in a transaction whose outward frame is the EMPTY frame. -/
def inTransaction : State :=
  State.reset.modPort 2 fun pr =>
    { pr with selected := true, transaction := some { outward := [0x10, 0, 0, 0x89], carriesAnswer := false } }

theorem witness_ChipSelectRiseDeliversThenPlaces :
    inTransaction.ports[(2 : Port)].presence = .present ∧ inTransaction.ports[(2 : Port)].selected = true ∧
      inTransaction.ports[(2 : Port)].transaction = some { outward := [0x10, 0, 0, 0x89], carriesAnswer := false } ∧
      inTransaction.ports[(2 : Port)].response = .empty ∧ readInward (bytesOf []) = .nop ∧
      readInward (bytesOf (bitsOf [0x30, 0x05])) = .invalid 5 := by decide

set_option maxRecDepth 20000 in
theorem witness_a_valid_frame_is_clocked :
    readInward (bytesOf (bitsOf (frameOf 0x30 5 []))) = .valid { code := 0x30, tag := 5, body := [] } := by decide

theorem witness_rise_into_a_waiting_slot :
    (inTransaction.modPort 2 fun pr => { pr with response := .waiting }).ports[(2 : Port)].response ≠ .empty ∧
      (inTransaction.modPort 2 fun pr => { pr with response := .waiting }).ports[(2 : Port)].transaction.isSome = true := by
  decide

theorem witness_rise_without_transaction :
    (State.reset.modPort 2 fun pr => { pr with selected := true }).ports[(2 : Port)].selected = true ∧
      (State.reset.modPort 2 fun pr => { pr with selected := true }).ports[(2 : Port)].transaction = none := by decide

theorem witness_DefineMakesTheLeaseVacant :
    Takes (placed State.reset 0 7 (.define 0 pairDef)) 0 7 (.define 0 pairDef) ∧
      (placed State.reset 0 7 (.define 0 pairDef)).leases[(0 : LeaseId)].state = .undefined ∧
      (∀ l : LeaseId, ∀ c : ChannelId, (placed State.reset 0 7 (.define 0 pairDef)).inLease l c = true →
        pairDef.channels.getLsbD c.val = false) ∧
      Takes (placed heldState 0 7 (.define 0 pairDef)) 0 7 (.define 0 pairDef) ∧
      heldState.leases[(0 : LeaseId)].state ≠ .undefined ∧
      Takes (placed heldState 0 7 (.define 1 pairDef)) 0 7 (.define 1 pairDef) ∧
      heldState.leases[(1 : LeaseId)].state = .undefined ∧ heldState.inLease 0 0 = true ∧
      pairDef.channels.getLsbD 0 = true := by decide

theorem witness_UndefineFreesTheChannels :
    Takes (placed vacantState 0 7 (.undefine 0)) 0 7 (.undefine 0) ∧ vacantState.leases[(0 : LeaseId)].state = .vacant := by
  decide

theorem witness_ConfigureChannelWritesTheRecord :
    Takes (placed vacantState 0 7 (.configureChannel 15 .parkHold .atPeriodEnd .both)) 0 7
        (.configureChannel 15 .parkHold .atPeriodEnd .both) ∧
      vacantState.channels[(15 : ChannelId)].lease = none ∧
      Takes (placed heldState 0 7 (.configureChannel 0 .parkLow .atOnce .h0)) 0 7 (.configureChannel 0 .parkLow .atOnce .h0) ∧
      heldState.channels[(0 : ChannelId)].lease = some 0 ∧ heldState.leases[(0 : LeaseId)].state = .held := by decide

theorem witness_RevokeHandsTheLeaseOnAtOnce :
    (placed heldState 0 7 (.revoke 0)).Lawful ∧ Takes (placed heldState 0 7 (.revoke 0)) 0 7 (.revoke 0) ∧
      (placed heldState 0 7 (.revoke 0)).leases[(0 : LeaseId)].live = true :=
  ⟨by constructor <;> decide, by decide, by decide⟩

theorem witness_revoke_of_other_states :
    (placed lapsingState 0 7 (.revoke 0)).Lawful ∧ Takes (placed lapsingState 0 7 (.revoke 0)) 0 7 (.revoke 0) ∧
      (placed lapsingState 0 7 (.revoke 0)).leases[(0 : LeaseId)].state = .lapsing ∧
      Takes (placed vacantState 0 7 (.revoke 0)) 0 7 (.revoke 0) ∧ vacantState.leases[(0 : LeaseId)].state = .vacant ∧
      vacantState.leases[(15 : LeaseId)].state = .undefined :=
  ⟨by constructor <;> decide, by decide, by decide, by decide, by decide, by decide⟩

theorem witness_ResetLeasesVacatesEveryLease :
    Takes (placed heldState 0 7 .resetLeases) 0 7 .resetLeases ∧ heldState.leases[(0 : LeaseId)].state ≠ .undefined ∧
      heldState.leases[(15 : LeaseId)].state = .undefined ∧ heldState.inLease 0 0 = true ∧
      heldState.leases[(0 : LeaseId)].live = true ∧ heldState.leases[(0 : LeaseId)].holder = some 1 ∧
      heldState.leases[(0 : LeaseId)].queue = [{ port := 2, term := 300 }] := by decide

/-- R46, R65: RESET_LEASES withdraws a raised expiry, tells P1 LAPSED and P2 WAIT_CANCELLED, and tells P3 nothing. -/
theorem test_reset_leases_withdraws_and_tells :
    let t := after (exec .resetLeases (placed (raised heldState (.expiry 0 .term)) 0 7 .resetLeases))
    t.events = [] ∧ t.notices[(1 : Port)][(0 : LeaseId)].map Notice.kinds = some 0x004#9 ∧
      t.notices[(2 : Port)][(0 : LeaseId)].map Notice.kinds = some 0x080#9 ∧ t.attn[(3 : Port)] = false := by decide

theorem witness_AcquireFollowsItsTable :
    Takes (placed vacantState 3 7 (.acquire 0 2000 false)) 3 7 (.acquire 0 2000 false) ∧
      Takes (placed heldState 2 7 (.acquire 0 100 true)) 2 7 (.acquire 0 100 true) := by decide

theorem witness_WithdrawRemovesTheEntry : Takes (placed heldState 2 7 (.withdraw 0)) 2 7 (.withdraw 0) := by decide

theorem witness_RenewSetsTermAndDeadline :
    Takes (placed graceState 1 7 (.renew 0 1 0)) 1 7 (.renew 0 1 0) ∧ graceState.leases[(0 : LeaseId)].state ≠ .undefined ∧
      MayAct graceState 1 0 1 true ∧ graceState.leases[(0 : LeaseId)].term = some 1000 ∧
      Takes (placed heldState 1 7 (.renew 0 1 100)) 1 7 (.renew 0 1 100) ∧ MayAct heldState 1 0 1 true ∧
      heldState.leases[(0 : LeaseId)].termWithin 100 = true := by decide

/-- New terms just outside the bounds, 99 and 2001. -/
theorem witness_renew_outside_the_bounds :
    Takes (placed heldState 1 7 (.renew 0 1 99)) 1 7 (.renew 0 1 99) ∧ MayAct heldState 1 0 1 true ∧
      heldState.leases[(0 : LeaseId)].defn = some pairDef ∧ (99 : Word16) < pairDef.termMin ∧
      Takes (placed graceState 1 7 (.renew 0 1 2001)) 1 7 (.renew 0 1 2001) ∧ MayAct graceState 1 0 1 true ∧
      graceState.leases[(0 : LeaseId)].defn = some pairDef ∧ pairDef.termMax < (2001 : Word16) := by decide

theorem witness_TransferGrantsToTheTarget :
    Takes (placed heldState 1 7 (.transfer 0 1 .next)) 1 7 (.transfer 0 1 .next) ∧ MayAct heldState 1 0 1 false ∧
      heldState.leases[(0 : LeaseId)].commitPending = false ∧
      heldState.leases[(0 : LeaseId)].queue.head? = some { port := 2, term := 300 } ∧
      Takes (placed heldState 1 7 (.transfer 0 1 (.port 2))) 1 7 (.transfer 0 1 (.port 2)) ∧
      heldState.leases[(0 : LeaseId)].queue.find? (fun x => x.port == 2) = some { port := 2, term := 300 } ∧
      Takes (placed heldState 1 7 (.transfer 0 1 (.port 3))) 1 7 (.transfer 0 1 (.port 3)) ∧
      (∀ w ∈ heldState.leases[(0 : LeaseId)].queue, w.port ≠ 3) ∧
      Takes (placed pendingState 1 7 (.transfer 0 1 .next)) 1 7 (.transfer 0 1 .next) ∧
      MayAct pendingState 1 0 1 false ∧ pendingState.leases[(0 : LeaseId)].commitPending = true := by decide

theorem witness_ReleaseLapsesTheLease :
    (placed heldState 1 7 (.release 0 1)).Lawful ∧ Takes (placed heldState 1 7 (.release 0 1)) 1 7 (.release 0 1) ∧
      MayAct (placed heldState 1 7 (.release 0 1)) 1 0 1 true ∧
      LeavesParking (placed heldState 1 7 (.release 0 1)) 0 .released :=
  ⟨by constructor <;> decide, by decide, by decide, by decide⟩

/-- A RELEASE that leaves no channel PARKING. -/
theorem witness_release_hands_on :
    (placed atOnceState 1 7 (.release 0 1)).Lawful ∧ Takes (placed atOnceState 1 7 (.release 0 1)) 1 7 (.release 0 1) ∧
      MayAct (placed atOnceState 1 7 (.release 0 1)) 1 0 1 true ∧
      ¬LeavesParking (placed atOnceState 1 7 (.release 0 1)) 0 .released :=
  ⟨by constructor <;> decide, by decide, by decide, by decide⟩

theorem witness_StageWritesTheSlot :
    Takes (placed heldState 1 7 (.stage 0 1 1 edgeSet)) 1 7 (.stage 0 1 1 edgeSet) ∧ MayAct heldState 1 0 1 false ∧
      heldState.inLease 0 1 = true ∧ heldState.leases[(0 : LeaseId)].commitPending = false := by decide

theorem witness_DiscardEmptiesTheSlot :
    Takes (placed graceState 1 7 (.discard 0 1 1)) 1 7 (.discard 0 1 1) ∧ MayAct graceState 1 0 1 true ∧
      graceState.inLease 0 1 = true ∧ graceState.leases[(0 : LeaseId)].commitPending = false ∧
      graceState.leases[(0 : LeaseId)].state ≠ .undefined ∧
      Takes (placed graceState 1 7 (.discard 0 1 15)) 1 7 (.discard 0 1 15) ∧ graceState.inLease 0 15 = false ∧
      Takes (placed pendingState 1 7 (.discard 0 1 1)) 1 7 (.discard 0 1 1) ∧ MayAct pendingState 1 0 1 true ∧
      pendingState.inLease 0 1 = true ∧ pendingState.leases[(0 : LeaseId)].commitPending = true ∧
      Takes (placed pendingState 1 7 (.stage 0 1 1 edgeSet)) 1 7 (.stage 0 1 1 edgeSet) ∧ MayAct pendingState 1 0 1 false ∧
      Takes (placed heldState 1 7 (.stage 0 1 2 edgeSet)) 1 7 (.stage 0 1 2 edgeSet) ∧ heldState.inLease 0 2 = false := by
  decide

theorem witness_CommitIsPendingOrExecutes :
    Takes (placed heldState 1 7 (.commit 0 1)) 1 7 (.commit 0 1) ∧ MayAct heldState 1 0 1 false ∧
      heldState.leases[(0 : LeaseId)].defn = some pairDef ∧
      1 = (channelIds.filter fun c => heldState.inLease 0 c && heldState.slots[c].isSome).length := by decide

theorem witness_ResumeStartsStoppedChannels :
    Takes (placed heldState 1 7 (.resume 0 1)) 1 7 (.resume 0 1) ∧ MayAct heldState 1 0 1 false := by decide

theorem witness_ParkParksTheListedChannels :
    Takes (placed graceState 1 7 (.park 0 1 0x8001)) 1 7 (.park 0 1 0x8001) ∧ MayAct graceState 1 0 1 true ∧
      graceState.leases[(0 : LeaseId)].state ≠ .undefined ∧ graceState.leases[(0 : LeaseId)].defn = some pairDef ∧
      Takes (placed pendingState 1 7 (.park 0 1 1)) 1 7 (.park 0 1 1) ∧ MayAct pendingState 1 0 1 true := by decide

theorem witness_ReadNoticesReturnsTheLowestEight : Takes (placed heldState 3 7 .readNotices) 3 7 .readNotices := by decide

theorem witness_LookupsChangeNothing :
    Takes (placed State.reset 3 7 (.queryLease 15)) 3 7 (.queryLease 15) ∧
      Takes (placed State.reset 0 7 (.queryChannel 15)) 0 7 (.queryChannel 15) ∧
      Takes (placed State.reset 1 7 .queryDevice) 1 7 .queryDevice := by decide

/-- A HELD lease with its deadline ahead, and an UNDEFINED one with none. -/
theorem witness_LeaseBodyFollowsItsLayout :
    heldState.Lawful ∧ heldState.deadlines[(0 : LeaseId)] = some { kind := .term, tick := 1000 } ∧
      heldState.expiryWaits 0 = false ∧ heldState.leases[(0 : LeaseId)].defn = some pairDef ∧
      heldState.deadlines[(15 : LeaseId)] = none ∧ heldState.leases[(15 : LeaseId)].defn = none :=
  ⟨lawful_heldState, by decide, by decide, by decide, by decide, by decide⟩

/-- The deadline reached and its expiry waiting. -/
theorem witness_lease_body_at_expiry :
    ({ raised heldState (.expiry 0 .term) with now := 1000 } : State).Lawful ∧
      ({ raised heldState (.expiry 0 .term) with now := 1000 } : State).expiryWaits 0 = true :=
  ⟨by constructor <;> decide, by decide⟩

theorem witness_ChannelAndDeviceBodiesFollowTheirLayouts :
    heldState.channels[(0 : ChannelId)].active = some edgeSet ∧ heldState.channels[(1 : ChannelId)].active = none ∧
      heldState.slots[(0 : ChannelId)] = none ∧ heldState.slots[(1 : ChannelId)] = some { params := edgeSet, tag := 1 } := by
  decide

/-- `s` with the arbiter's next request any code and body. -/
def placedRaw (s : State) (p : Port) (r : Request) : State :=
  s.modPort p fun pr => { pr with request := some r, response := .waiting }

/-- Code 0x19 names no request (the example of chapter 9). -/
theorem witness_MalformedRequestsAreAnsweredSo :
    (placedRaw State.reset 3 { code := 0x19, tag := 7, body := [] }).nextRequest =
        some (3, { code := 0x19, tag := 7, body := [] }) ∧
      ∀ k : ReqCode, k.byte ≠ 0x19 := ⟨by decide, fun k => by cases k <;> decide⟩

/-- READ_NOTICES with a spare byte. -/
theorem witness_spare_byte :
    (placedRaw State.reset 3 { code := 0x30, tag := 7, body := [0] }).nextRequest =
        some (3, { code := 0x30, tag := 7, body := [0] }) ∧
      ReqCode.readNotices.byte = 0x30 ∧
      ∀ q : HostRequest, q.code = .readNotices → q.inRange = true → q.body ≠ [0] :=
  ⟨by decide, by decide, fun q hq _ => by cases q <;> cases hq; decide⟩

theorem witness_EveryTakenRequestIsAnswered :
    (placed State.reset 3 7 .readNotices).nextRequest = some (3, { code := 0x30, tag := 7, body := [] }) := by decide

/-- With the pointer at P1, P2 and P0 both asking, P2 is found first; after reset no slot holds a request. -/
theorem witness_search_goes_round :
    ({ placed (placed State.reset 0 1 .queryDevice) 2 2 .queryDevice with arbiter := 1 } : State).nextRequest.map Prod.fst =
        some 2 ∧
      searchedBefore 1 2 < searchedBefore 1 0 ∧ ∀ q : Port, State.reset.ports[q].request = none := by decide

theorem witness_CommonChecksAnswerInOrder :
    Takes (placed heldState 1 7 .resetLeases) 1 7 .resetLeases ∧ supervisorRequest .resetLeases = true ∧
      Takes (placed heldState 1 7 (.release 15 1)) 1 7 (.release 15 1) ∧
      holderFields (.release 15 1) = some (15, 1, true) ∧ heldState.leases[(15 : LeaseId)].state = .undefined ∧
      Takes (placed heldState 2 7 (.release 0 1)) 2 7 (.release 0 1) ∧ heldState.leases[(0 : LeaseId)].heldBy 2 = false ∧
      heldState.leases[(0 : LeaseId)].state ≠ .undefined ∧ Takes (placed heldState 1 7 (.release 0 2)) 1 7 (.release 0 2) ∧
      heldState.leases[(0 : LeaseId)].heldBy 1 = true ∧ heldState.leases[(0 : LeaseId)].epoch ≠ 2 ∧
      Takes (placed graceState 1 7 (.commit 0 1)) 1 7 (.commit 0 1) ∧ holderFields (.commit 0 1) = some (0, 1, false) ∧
      graceState.leases[(0 : LeaseId)].heldBy 1 = true ∧ graceState.leases[(0 : LeaseId)].epoch = 1 ∧
      graceState.leases[(0 : LeaseId)].state = .grace := by decide

theorem witness_RefusedRequestsLeaveThePart :
    NextIs (placed heldState 2 7 (.release 0 1)) .release 2 { code := 0x14, tag := 7, body := [0, 0, 1] } ∧
      exec .release (placed heldState 2 7 (.release 0 1)) =
        .next (after (exec .release (placed heldState 2 7 (.release 0 1)))) ∧
      (after (exec .release (placed heldState 2 7 (.release 0 1)))).ports[(2 : Port)].response =
        .ready { status := .notHolder, tag := 7, body := [] } := ⟨by decide, rfl, by decide⟩

theorem witness_PostsJoinTheRecord :
    (Post.granted 9).kind = .granted ∧ (∀ e : Word16, Post.grace ≠ .granted e) ∧ ∀ r : LapseReason, Post.grace ≠ .lapsed r :=
  ⟨rfl, fun _ h => (by cases h), fun _ h => (by cases h)⟩

theorem witness_LapseStartsAndCompletes :
    heldState.leases[(0 : LeaseId)].holder = some 1 ∧ LapseReason.expired ≠ .reset ∧
      (lapsingState.parkLease 0).leases[(0 : LeaseId)].state = .lapsing ∧
      (lapsingState.parkLease 0).leases[(0 : LeaseId)].commitPending = false ∧
      (∀ c : ChannelId, (lapsingState.parkLease 0).inLease 0 c = true →
        (lapsingState.parkLease 0).channels[c].state ≠ .parking) ∧
      (lapsingState.parkLease 0).leases[(0 : LeaseId)].queue = { port := 2, term := 300 } :: [] ∧
      ((lapsingState.parkLease 0).modLease 0 fun r => { r with queue := [] }).leases[(0 : LeaseId)].queue = [] ∧
      heldState.leases[(0 : LeaseId)].state ≠ .lapsing ∧ lapsingState.inLease 0 0 = true ∧
      lapsingState.channels[(0 : ChannelId)].state = .parking := by decide

theorem witness_CommitExecutionStartsTheGroup : pendingState.leases[(0 : LeaseId)].holder = some 1 := by decide

/-- A lawful state with a command waiting that completes: `heldState` and a TICK. -/
theorem lawful_ticking : ({ heldState with pending := [.tick] } : State).Lawful := by
  obtain ⟨h1, h2, h3, h4, h5, h6, h7, h8, h9, h10, h11, h12, h13, h14, h15⟩ := lawful_heldState
  exact ⟨h1, h2, h3, h4, h5, h6, h7, h8, h9, h10, h11, h12, h13, h14, h15⟩

theorem witness_StepsKeepTheLeaseTableLaws :
    ({ heldState with pending := [.tick] } : State).Lawful ∧
      step { heldState with pending := [.tick] } = .next (after (exec .tick heldState)) := ⟨lawful_ticking, rfl⟩

theorem witness_StepsKeepTheOutputLaws : pendingState.Lawful ∧ step pendingState = .next pendingState :=
  ⟨lawful_pendingState, rfl⟩

theorem witness_StepsKeepThePortLaws : (leaving heldState).Lawful ∧ step (leaving heldState) = .next (leaving heldState) :=
  ⟨lawful_leaving, rfl⟩

theorem witness_HaltedChannelsStayParkedInEveryRun :
    releasing.Lawful ∧ core.run 0 releasing = .next releasing ∧
      groupHas releasing.channels[(1 : ChannelId)].haltGroup .h0 = true ∧ releasing.haltTaken.get .h0 = true :=
  ⟨lawful_releasing, rfl, by decide, by decide⟩

theorem witness_EpochsOnlyAdvance :
    (∀ pins : Pins, Instr.revoke ≠ .deviceReset pins) ∧
      exec .revoke (placed heldState 0 7 (.revoke 0)) = .next (after (exec .revoke (placed heldState 0 7 (.revoke 0)))) ∧
      (placed heldState 0 7 (.revoke 0)).leases[(0 : LeaseId)].epoch ≠ 0 :=
  ⟨fun _ h => (by cases h), rfl, by decide⟩

theorem witness_OtherHostsCannotTouchAHeldLease :
    (placed heldState 3 7 (.acquire 0 500 true)).Lawful ∧
      NextIs (placed heldState 3 7 (.acquire 0 500 true)) .acquire 3 { code := 0x10, tag := 7, body := [0, 1, 0xF4, 1] } ∧
      (placed heldState 3 7 (.acquire 0 500 true)).leases[(0 : LeaseId)].live = true ∧
      (placed heldState 3 7 (.acquire 0 500 true)).leases[(0 : LeaseId)].heldBy 3 = false ∧
      exec .acquire (placed heldState 3 7 (.acquire 0 500 true)) =
        .next (after (exec .acquire (placed heldState 3 7 (.acquire 0 500 true)))) :=
  ⟨by constructor <;> decide, by decide, by decide, by decide, rfl⟩

end Sys2Proof.Tests
end

section
/-! SUPPORT. The take of a request as one equation: what a body decodes to, the judgement each request gets, and the answer written
for it. -/

namespace Sys2Proof

/-! ### Bodies -/

theorem decodeLeaseOnly_eq_some {mk : LeaseId → HostRequest} {body : List Byte} {q : HostRequest}
    (h : decodeLeaseOnly mk body = some q) : ∃ l : LeaseId, q = mk l := by
  unfold decodeLeaseOnly at h
  split at h
  · obtain ⟨l, -, hl⟩ := Option.map_eq_some_iff.mp h
    exact ⟨l, hl.symm⟩
  · cases h

theorem decodeLeaseEpoch_eq_some {mk : LeaseId → Word16 → HostRequest} {body : List Byte} {q : HostRequest}
    (h : decodeLeaseEpoch mk body = some q) : ∃ (l : LeaseId) (e : Word16), q = mk l e := by
  unfold decodeLeaseEpoch at h
  split at h
  · obtain ⟨l, -, hl⟩ := Option.map_eq_some_iff.mp h
    exact ⟨l, _, hl.symm⟩
  · cases h

theorem decodeEmpty_eq_some {r q : HostRequest} {body : List Byte} (h : decodeEmpty r body = some q) : q = r := by
  unfold decodeEmpty at h
  split at h <;> cases h
  rfl

/-- A body read under a code decodes to a request of that code only (R160). -/
theorem decodeBody_code {k : ReqCode} {body : List Byte} {q : HostRequest} (h : decodeBody k body = some q) : q.code = k := by
  cases k
  case undefine | revoke | withdraw | queryLease | queryChannel =>
    obtain ⟨l, rfl⟩ := decodeLeaseOnly_eq_some h
    rfl
  case release | commit | resume =>
    obtain ⟨l, e, rfl⟩ := decodeLeaseEpoch_eq_some h
    rfl
  case resetLeases | readNotices | queryDevice =>
    cases decodeEmpty_eq_some h
    rfl
  case define | configureChannel | acquire | renew | transfer | stage | discard | park =>
    simp only [decodeBody, decodeDefine, decodeConfigureChannel, decodeAcquire, decodeRenew, decodeTransfer, decodeStage,
      decodeDiscard, decodePark] at h
    repeat' split at h
    all_goals cases h
    all_goals rfl

/-- The layout of a request in range reads back as that request (R160 to R162). -/
theorem decodeBody_body {q : HostRequest} (h : q.inRange = true) : decodeBody q.code q.body = some q := by
  cases q
  case define l d =>
    have hd : d.inRange = true := h
    simp [decodeBody, decodeDefine, HostRequest.code, HostRequest.body, wordBytes, hd]
  case acquire l t w =>
    have ht : termInRange t = true := h
    simp [decodeBody, decodeAcquire, HostRequest.code, HostRequest.body, wordBytes, ht]
  case renew l e t =>
    have ht : ¬t = 0#16 → termInRange t = true := by simpa [HostRequest.inRange, or_iff_not_imp_left] using h
    simpa [decodeBody, decodeRenew, HostRequest.code, HostRequest.body, wordBytes] using ht
  case stage l e c ps =>
    have hps : ps.valid = true := h
    simp [decodeBody, decodeStage, ParamSet.ofBytes, ParamSet.bytes, HostRequest.code, HostRequest.body, wordBytes, hps]
  case park l e set =>
    have hset : set ≠ 0#16 := of_decide_eq_true h
    simp [decodeBody, decodePark, HostRequest.code, HostRequest.body, wordBytes, hset]
  all_goals
    simp [decodeBody, decodeLeaseOnly, decodeLeaseEpoch, decodeEmpty, decodeConfigureChannel, decodeTransfer, decodeDiscard,
      HostRequest.code, HostRequest.body, wordBytes]

end Sys2Proof

namespace Sys2Proof.Machine

/-! ### Judgements -/

/-- The judgement of a request of a port at its take: what the arm of its code answers (R131). -/
def State.judge (s : State) (p : Port) : HostRequest → Judgement
  | .define l d => s.judgeDefine p l d
  | .undefine l => s.judgeUndefine p l
  | .configureChannel c a t g => s.judgeConfigure p c a t g
  | .revoke l => s.judgeRevoke p l
  | .resetLeases =>
    checked [supervisorCheck p] (.accept .ok [countByte s.countDefined] (s.eachLease fun l t => t.resetLease l))
  | .acquire l t w => s.judgeAcquire p l t w
  | .withdraw l => s.judgeWithdraw p l
  | .renew l e t => s.judgeRenew p l e t
  | .transfer l e t => s.judgeTransfer p l e t
  | .release l e => s.judgeRelease p l e
  | .stage l e c ps => s.judgeStage p l e c ps
  | .discard l e c => s.judgeDiscard p l e c
  | .commit l e => s.judgeCommit p l e
  | .resume l e => s.judgeResume p l e
  | .park l e set => s.judgePark p l e set
  | .readNotices => .accept .ok (noticesBody s.notices[p]) (s.setNotices p (noticesLeft s.notices[p]))
  | .queryLease l => .accept .ok (s.leaseBody l) s
  | .queryChannel c => .accept .ok (s.channelBody c) s
  | .queryDevice => .accept .ok s.deviceBody s

/-- An acceptance is answered OK, OK_LATE or QUEUED (R163). -/
def Judgement.AcceptsWell : Judgement → Prop
  | .refuse _ => True
  | .accept st _ _ => st = .ok ∨ st = .okLate ∨ st = .queued

theorem Judgement.acceptsWell_refuse (st : Status) : (Judgement.refuse st).AcceptsWell := trivial

theorem Judgement.acceptsWell_ok (body : List Byte) (t : State) : (Judgement.accept .ok body t).AcceptsWell := .inl rfl

theorem acceptsWell_checked (checks : List (Bool × Status)) {k : Judgement} (h : k.AcceptsWell) :
    (checked checks k).AcceptsWell := by
  obtain ⟨st, -, hc⟩ | ⟨-, hc⟩ := checked_cases checks k
  · rw [hc]; exact Judgement.acceptsWell_refuse st
  · rw [hc]; exact h

theorem State.acquireByState_acceptsWell (s : State) (p : Port) (l : LeaseId) (term : Word16) (wait : Bool) :
    (s.acquireByState p l term wait).AcceptsWell := by
  unfold State.acquireByState
  split_ifs
  · exact Judgement.acceptsWell_ok _ _
  · exact Judgement.acceptsWell_refuse _
  · exact Judgement.acceptsWell_refuse _
  · exact .inr (.inr rfl)
  · exact Judgement.acceptsWell_refuse _

theorem State.judgeRenew_acceptsWell (s : State) (p : Port) (l : LeaseId) (epoch newTerm : Word16) :
    (s.judgeRenew p l epoch newTerm).AcceptsWell := by
  refine acceptsWell_checked _ ?_
  split_ifs
  · exact .inr (.inl rfl)
  · exact Judgement.acceptsWell_ok _ _

theorem State.judgeTransfer_acceptsWell (s : State) (p : Port) (l : LeaseId) (epoch : Word16) (target : Target) :
    (s.judgeTransfer p l epoch target).AcceptsWell := by
  refine acceptsWell_checked _ ?_
  split
  · exact Judgement.acceptsWell_ok _ _
  · exact Judgement.acceptsWell_refuse _

theorem State.judge_acceptsWell (s : State) (p : Port) (q : HostRequest) : (s.judge p q).AcceptsWell := by
  cases q with
  | acquire l t w => exact acceptsWell_checked _ (s.acquireByState_acceptsWell p l t w)
  | renew l e t => exact s.judgeRenew_acceptsWell p l e t
  | transfer l e t => exact s.judgeTransfer_acceptsWell p l e t
  | readNotices | queryLease | queryChannel | queryDevice => exact Judgement.acceptsWell_ok _ _
  | _ => exact acceptsWell_checked _ (Judgement.acceptsWell_ok _ _)

/-! ### The take of a request -/

theorem State.takeRequest_of_decoded {s : State} {p : Port} {r : Request} {k : ReqCode} {q : HostRequest}
    (hn : s.nextRequest = some (p, r)) (hc : r.code = k.byte) (hd : decodeBody k r.body = some q)
    (judge : Port → HostRequest → Judgement) : s.takeRequest k judge = s.answer p r.tag (judge p q) := by
  simp [State.takeRequest, hn, hc, hd]

theorem State.takeRequest_of_undecodable {s : State} {p : Port} {r : Request} {k : ReqCode}
    (hn : s.nextRequest = some (p, r)) (hc : r.code = k.byte) (hd : decodeBody k r.body = none)
    (judge : Port → HostRequest → Judgement) : s.takeRequest k judge = s.respond p .badField r.tag [] := by
  simp [State.takeRequest, hn, hc, hd]

/-- The take of a request that decodes answers it by its judgement (R131). -/
theorem exec_command_of_decoded {s : State} {p : Port} {r : Request} {k : ReqCode} {q : HostRequest}
    (hn : s.nextRequest = some (p, r)) (hc : r.code = k.byte) (hd : decodeBody k r.body = some q) :
    exec k.command s = .next (s.answer p r.tag (s.judge p q)) := by
  cases decodeBody_code hd
  cases q <;> exact congrArg Host.Outcome.next (State.takeRequest_of_decoded hn hc hd _)

/-- The take of a request whose body is no layout of its code answers BAD_FIELD (R21). -/
theorem exec_command_of_undecodable {s : State} {p : Port} {r : Request} {k : ReqCode}
    (hn : s.nextRequest = some (p, r)) (hc : r.code = k.byte) (hd : decodeBody k r.body = none) :
    exec k.command s = .next (s.respond p .badField r.tag []) := by
  cases k <;> exact congrArg Host.Outcome.next (State.takeRequest_of_undecodable hn hc hd _)

@[simp] theorem State.respond_response (s : State) (p : Port) (st : Status) (tag : Byte) (body : List Byte) :
    (s.respond p st tag body).ports[p].response = .ready { status := st, tag := tag, body := body } := by
  simp

end Sys2Proof.Machine

namespace Sys2Proof.Claims

open Sys2Proof.Machine

/-! ### The words of the statements -/

@[simp] theorem requestCode_eq_byte (k : ReqCode) : requestCode k = k.byte := by cases k <;> rfl

theorem respond_eq_answered (s : State) (p : Port) (st : Status) (tag : Byte) (body : List Byte) :
    s.respond p st tag body = answered s p tag st body := rfl

/-- The take of a request in range answers it by its judgement (R131). -/
theorem exec_of_takes {s : State} {p : Port} {tag : Byte} {q : HostRequest} (h : Takes s p tag q) :
    exec q.code.command s = .next (s.answer p tag (s.judge p q)) := by
  obtain ⟨hn, hr⟩ := h
  exact exec_command_of_decoded hn (requestCode_eq_byte _) (decodeBody_body hr)

/-- The take of a request writes its response by some judgement that accepts only with OK, OK_LATE or QUEUED (R21, R131). -/
theorem exec_of_nextIs {s : State} {k : ReqCode} {p : Port} {r : Request} (h : NextIs s k p r) :
    ∃ j : Judgement, j.AcceptsWell ∧ exec k.command s = .next (s.answer p r.tag j) := by
  obtain ⟨hn, hc⟩ := h
  rw [requestCode_eq_byte] at hc
  cases hd : decodeBody k r.body with
  | some q => exact ⟨s.judge p q, s.judge_acceptsWell p q, exec_command_of_decoded hn hc hd⟩
  | none => exact ⟨.refuse .badField, Judgement.acceptsWell_refuse _, exec_command_of_undecodable hn hc hd⟩

/-- A response that is none of OK, OK_LATE and QUEUED was written by a refusal, which leaves the part as it found it (R23). -/
theorem answer_of_refused {s : State} {p : Port} {tag : Byte} {j : Judgement} {a : Response} (hj : j.AcceptsWell)
    (ha : (s.answer p tag j).ports[p].response = .ready a) (hok : a.status ≠ .ok) (hlate : a.status ≠ .okLate)
    (hqueued : a.status ≠ .queued) : s.answer p tag j = answered s p tag a.status [] := by
  cases j with
  | refuse st =>
    rw [State.answer_refuse, State.respond_response] at ha
    cases ha
    rfl
  | accept st body t =>
    rw [State.answer_accept, State.respond_response] at ha
    cases ha
    obtain h | h | h := hj
    · exact absurd h hok
    · exact absurd h hlate
    · exact absurd h hqueued

/-- Settles O50: the response shows that the judgement was a refusal, and a refusal writes the answer alone. -/
theorem refusedRequestsLeaveThePart : Obligations.RefusedRequestsLeaveThePart := by
  intro s t k p r a hnext hexec ha hok hlate hqueued
  obtain ⟨j, hj, he⟩ := exec_of_nextIs hnext
  cases he.symm.trans hexec
  exact answer_of_refused hj ha hok hlate hqueued

/-! ### UNDEFINE -/

/-- An accepted UNDEFINE writes the lease record and the lease fields of its channels, and nothing else (R19). -/
theorem undefined_eq (s : State) (l : LeaseId) :
    s.undefined l =
      { s with
        leases := s.leases.set l.val { s.leases[l] with state := .undefined, defn := none }
        channels := Vector.ofFn fun c : Fin 16 =>
          if s.inLease l c then { s.channels[c] with lease := none } else s.channels[c] } := rfl

/-- UNDEFINE from the supervisor port is judged by the lease's state alone (R19). -/
theorem judgeUndefine_supervisor (s : State) (l : LeaseId) :
    s.judgeUndefine 0 l =
      match s.leases[l].state with
      | .undefined => .refuse .notDefined
      | .vacant => .accept .ok [] (s.undefined l)
      | .held | .grace | .lapsing => .refuse .busy := by
  cases h : s.leases[l].state <;>
    simp [State.judgeUndefine, checked, firstFailure, supervisorCheck, supervisor, State.definedCheck, h, -Fin.getElem_fin]

/-- Settles O29, by the lease's state. -/
theorem undefineFreesTheChannels : Obligations.UndefineFreesTheChannels := by
  intro s tag l htakes
  have hexec : exec .undefine s = .next (s.answer 0 tag (s.judgeUndefine 0 l)) := exec_of_takes htakes
  rw [hexec, judgeUndefine_supervisor]
  cases s.leases[l].state with
  | undefined | held | grace | lapsing => rfl
  | vacant => rw [undefined_eq]; rfl

end Sys2Proof.Claims
end

section
/-! SUPPORT. Claiming: what ACQUIRE and WITHDRAW answer, row by row of their tables. -/

namespace Sys2Proof.Machine

/-! ### Checks in order -/

@[simp] theorem checked_nil (k : Judgement) : checked [] k = k := rfl

/-- The first of a run of checks refuses, or the others decide (R21, R22). -/
@[simp] theorem checked_cons (failed : Bool) (st : Status) (rest : List (Bool × Status)) (k : Judgement) :
    checked ((failed, st) :: rest) k = if failed then .refuse st else checked rest k := by
  cases failed <;> rfl

/-! ### Queue entries -/

theorem Lease.isSome_entryOf (r : Lease) (p : Port) : (r.entryOf p).isSome = r.queue.any fun w => w.port == p :=
  List.isSome_find?

theorem Lease.isNone_entryOf (r : Lease) (p : Port) : (r.entryOf p).isNone = !r.queue.any fun w => w.port == p := by
  rw [← Lease.isSome_entryOf, Option.not_isSome]

/-! ### The tables -/

/-- ACQUIRE's two checks come before the lease's state decides (R27). -/
theorem State.judgeAcquire_eq (s : State) (p : Port) (l : LeaseId) (term : Word16) (wait : Bool) :
    s.judgeAcquire p l term wait =
      if s.leases[l].state = .undefined then .refuse .notDefined
      else if s.leases[l].termWithin term = false then .refuse .badField
      else s.acquireByState p l term wait := by
  simp only [State.judgeAcquire, State.definedCheck, checked_cons, checked_nil, beq_iff_eq, Bool.not_eq_true']

/-- WITHDRAW turns on whether the port has an entry (R31). -/
theorem State.judgeWithdraw_eq (s : State) (p : Port) (l : LeaseId) :
    s.judgeWithdraw p l =
      if s.leases[l].state = .undefined then .refuse .notDefined
      else if (s.leases[l].queue.any fun w => w.port == p) = true then
        .accept .ok [] (s.modLease l fun r => { r with queue := r.queueWithout p })
      else .refuse .notWaiting := by
  simp only [State.judgeWithdraw, State.definedCheck, checked_cons, checked_nil, beq_iff_eq, Lease.isNone_entryOf,
    Bool.not_eq_true']
  cases s.leases[l].queue.any fun w => w.port == p <;> rfl

end Sys2Proof.Machine

namespace Sys2Proof.Claims

open Sys2Proof.Machine

/-! ### ACQUIRE and WITHDRAW -/

/-- Settles O33, by the rows of the table: the two checks, then the lease's state at the take. -/
theorem acquireFollowsItsTable : Obligations.AcquireFollowsItsTable := by
  intro s p tag l term wait htakes
  have hexec : exec .acquire s = .next (s.answer p tag (s.judgeAcquire p l term wait)) := exec_of_takes htakes
  rw [hexec, State.judgeAcquire_eq, State.acquireByState, Lease.isSome_entryOf]
  congr 1
  split_ifs with hundefined hterm hvacant hholder hwaiter hwait
  all_goals rfl

/-- Settles O34, by whether the lease is defined and the port has an entry. -/
theorem withdrawRemovesTheEntry : Obligations.WithdrawRemovesTheEntry := by
  intro s p tag l htakes
  have hexec : exec .withdraw s = .next (s.answer p tag (s.judgeWithdraw p l)) := exec_of_takes htakes
  rw [hexec, State.judgeWithdraw_eq]
  congr 1
  split_ifs with hundefined hentry
  all_goals rfl

end Sys2Proof.Claims
end

section
/-! SUPPORT. RENEW: the holder checks passed, the term in force, and what an accepted RENEW writes. -/

namespace Sys2Proof.Machine

/-! ### The holder -/

/-- A port holds a lease only in HELD or GRACE (R6). -/
theorem Lease.state_of_heldBy {r : Lease} {p : Port} (h : r.heldBy p = true) : r.state = .held ∨ r.state = .grace := by
  obtain ⟨hlive, -⟩ := (Bool.and_eq_true _ _).mp h
  simpa only [Lease.live, Bool.or_eq_true, beq_iff_eq] using hlive

theorem Lease.state_ne_undefined_of_heldBy {r : Lease} {p : Port} (h : r.heldBy p = true) : r.state ≠ .undefined := by
  obtain hheld | hgrace := Lease.state_of_heldBy h
  · rw [hheld]; decide
  · rw [hgrace]; decide

/-! ### Terms -/

theorem Lease.termWithin_of_defn {r : Lease} {d : LeaseDef} (h : r.defn = some d) (t : Word16) :
    r.termWithin t = (decide (d.termMin ≤ t) && decide (t ≤ d.termMax)) := by
  rw [Lease.termWithin, h]; rfl

/-- A term on the wrong side of either bound is not within them (R5, R20). -/
theorem Lease.termWithin_eq_false {r : Lease} {d : LeaseDef} {t : Word16} (h : r.defn = some d)
    (ht : t < d.termMin ∨ d.termMax < t) : r.termWithin t = false := by
  rw [Lease.termWithin_of_defn h, Bool.and_eq_false_iff, decide_eq_false_iff_not, decide_eq_false_iff_not]
  exact ht.imp BitVec.not_le.mpr BitVec.not_le.mpr

@[simp] theorem Lease.renewedTerm_zero (r : Lease) : r.renewedTerm 0 = r.term.getD 0 := rfl

@[simp] theorem Lease.renewedTerm_of_ne_zero (r : Lease) {t : Word16} (h : t ≠ 0) : r.renewedTerm t = t := if_neg h

end Sys2Proof.Machine

namespace Sys2Proof.Claims

open Sys2Proof.Machine

/-! ### RENEW -/

/-- A port that may act passes the defined check and the three holder steps, and the checks after them decide (R21, R22). -/
theorem checked_holderChecks_of_mayAct {s : State} {p : Port} {l : LeaseId} {e : Word16} {passesGrace : Bool}
    (h : MayAct s p l e passesGrace) (rest : List (Bool × Status)) (k : Judgement) :
    checked (s.holderChecks p l e passesGrace ++ rest) k = checked rest k := by
  obtain ⟨hheld, hepoch, hstate⟩ := h
  have hdefined : (s.leases[l].state == .undefined) = false := beq_false_of_ne (Lease.state_ne_undefined_of_heldBy hheld)
  have hgrace : (s.leases[l].state == .grace && !passesGrace) = false := by
    cases passesGrace with
    | true => exact Bool.and_false _
    | false => rw [hstate rfl]; rfl
  have hcurrent : (s.leases[l].epoch != e) = false := bne_eq_false_iff_eq.mpr hepoch
  simp only [State.holderChecks, State.definedCheck, List.cons_append, List.nil_append, checked_cons, hdefined, hheld, hcurrent,
    hgrace, Bool.not_true, Bool.false_eq_true, if_false]

/-- Past the holder checks, RENEW turns on whether a new term lies within the lease's bounds (R49, R50). -/
theorem judgeRenew_of_mayAct {s : State} {p : Port} {l : LeaseId} {e : Word16} (h : MayAct s p l e true) (newTerm : Word16) :
    s.judgeRenew p l e newTerm =
      if newTerm ≠ 0 ∧ s.leases[l].termWithin newTerm = false then .refuse .badField
      else .accept (if s.leases[l].state = .grace then .okLate else .ok) (wordBytes (s.leases[l].renewedTerm newTerm))
        (s.renewed l newTerm) := by
  rw [State.judgeRenew, checked_holderChecks_of_mayAct h]
  simp only [checked_cons, checked_nil, Bool.and_eq_true, bne_iff_ne, Bool.not_eq_true']

/-- An accepted RENEW writes the lease record and the deadline, and withdraws a raised expiry (R46, R50). -/
theorem renewed_eq (s : State) (l : LeaseId) (newTerm : Word16) :
    s.renewed l newTerm =
      { s with
        leases := s.leases.set l.val
          { s.leases[l] with state := .held, term := some (s.leases[l].renewedTerm newTerm) }
        deadlines := s.deadlines.set l.val
          (some { kind := .term, tick := s.now + (s.leases[l].renewedTerm newTerm).setWidth 32 })
        events := withdrawn s l } := rfl

/-- The term in force after an accepted RENEW, and why its check passes: a new term within the bounds, or 0, which keeps the old
term (R50). -/
theorem renewedTerm_of_accepted {r : Lease} {newTerm term : Word16}
    (h : (newTerm ≠ 0 ∧ r.termWithin newTerm = true ∧ term = newTerm) ∨ (newTerm = 0 ∧ r.term = some term)) :
    r.renewedTerm newTerm = term ∧ ¬(newTerm ≠ 0 ∧ r.termWithin newTerm = false) := by
  obtain ⟨hne, hwithin, rfl⟩ | ⟨rfl, hterm⟩ := h
  · exact ⟨r.renewedTerm_of_ne_zero hne, fun ⟨_, hout⟩ => Bool.noConfusion (hwithin.symm.trans hout)⟩
  · exact ⟨by rw [Lease.renewedTerm_zero, hterm]; rfl, fun ⟨hne, _⟩ => hne rfl⟩

/-- The take of a RENEW answers it by its judgement (R131). -/
theorem exec_renew_of_takes {s : State} {p : Port} {tag : Byte} {l : LeaseId} {e newTerm : Word16}
    (h : Takes s p tag (.renew l e newTerm)) : exec .renew s = .next (s.answer p tag (s.judgeRenew p l e newTerm)) :=
  exec_of_takes h

/-- Settles O35: past the holder checks, the term in force and the bound check decide. -/
theorem renewSetsTermAndDeadline : Obligations.RenewSetsTermAndDeadline := by
  refine ⟨?accepted, ?outside⟩
  case accepted =>
    intro s p tag l e newTerm term htakes _ hmay hterm
    obtain ⟨hinForce, hpasses⟩ := renewedTerm_of_accepted hterm
    rw [exec_renew_of_takes htakes, judgeRenew_of_mayAct hmay, if_neg hpasses, renewed_eq, hinForce]
    rfl
  case outside =>
    intro s p tag l e newTerm d htakes hmay hdefn hne hout
    rw [exec_renew_of_takes htakes, judgeRenew_of_mayAct hmay, if_pos ⟨hne, Lease.termWithin_eq_false hdefn hout⟩]
    rfl

end Sys2Proof.Claims
end

section
/-! SUPPORT. STAGE: what it answers past the holder checks, and what an accepted one writes. -/

namespace Sys2Proof.Machine

/-! ### The slot checks -/

/-- The checks of STAGE and DISCARD turn on the channel's lease first, then on a pending commit (R93, R95). -/
theorem State.checked_slotChecks (s : State) (l : LeaseId) (c : ChannelId) (k : Judgement) :
    checked (s.slotChecks l c) k =
      if s.inLease l c = false then .refuse .badField
      else if s.leases[l].commitPending = true then .refuse .commitPending
      else k := by
  simp only [State.slotChecks, checked_cons, checked_nil, Bool.not_eq_true']

/-- Writing a slot changes that slot and no other part of the state (R94). -/
theorem State.setSlot_eq (s : State) (c : ChannelId) (x : Option StagedSet) :
    s.setSlot c x = { s with slots := s.slots.set c.val x } := rfl

end Sys2Proof.Machine

namespace Sys2Proof.Claims

open Sys2Proof.Machine

/-! ### STAGE -/

/-- Past the holder checks, STAGE turns on the slot checks, and accepted it tags the set with the lease's epoch (R93, R94). -/
theorem judgeStage_of_mayAct {s : State} {p : Port} {l : LeaseId} {e : Word16} (h : MayAct s p l e false) (c : ChannelId)
    (ps : ParamSet) :
    s.judgeStage p l e c ps =
      if s.inLease l c = false then .refuse .badField
      else if s.leases[l].commitPending = true then .refuse .commitPending
      else .accept .ok [flagByte s.slots[c].isSome] (s.setSlot c (some { params := ps, tag := s.leases[l].epoch })) := by
  rw [State.judgeStage, checked_holderChecks_of_mayAct h, State.checked_slotChecks]

/-- The take of a STAGE answers it by its judgement (R131). -/
theorem exec_stage_of_takes {s : State} {p : Port} {tag : Byte} {l : LeaseId} {e : Word16} {c : ChannelId} {ps : ParamSet}
    (h : Takes s p tag (.stage l e c ps)) : exec .stage s = .next (s.answer p tag (s.judgeStage p l e c ps)) :=
  exec_of_takes h

/-- Settles O38: past the holder checks and the slot checks, the judgement accepts, and its one write is the slot. -/
theorem stageWritesTheSlot : Obligations.StageWritesTheSlot := by
  intro s p tag l e c ps htakes hmay hin hpending
  have hother : ¬s.inLease l c = false := ne_false_of_eq_true hin
  have hnone : ¬s.leases[l].commitPending = true := ne_true_of_eq_false hpending
  rw [exec_stage_of_takes htakes, judgeStage_of_mayAct hmay, if_neg hother, if_neg hnone, State.answer_accept,
    State.setSlot_eq, respond_eq_answered]
  rfl

end Sys2Proof.Claims
end

section
/-! SUPPORT. Inward frames: what the frame check asks, and which frames carry a request. -/

namespace Sys2Proof.Machine

/-! ### Inward frames -/

@[simp] theorem frameValid_one (code : Byte) : frameValid [code] = false := rfl

@[simp] theorem frameValid_two (code tag : Byte) : frameValid [code, tag] = false := rfl

/-- With the header clocked, the check asks for a length in range, the whole frame and the right CRC byte (R128). -/
theorem frameValid_header_iff (code tag len : Byte) (more : List Byte) :
    frameValid (code :: tag :: len :: more) = true ↔
      len.toNat ≤ 60 ∧ 3 + len.toNat + 1 ≤ (code :: tag :: len :: more).length ∧
        (code :: tag :: len :: more)[3 + len.toNat]? =
          some (crc8 ((code :: tag :: len :: more).take (3 + len.toNat))) := by
  have hwhole : len.toNat + 4 = 3 + len.toNat + 1 := by omega
  rw [frameValid, Bool.and_eq_true, Bool.and_eq_true, decide_eq_true_iff, decide_eq_true_iff, beq_iff_eq, hwhole, and_assoc,
    Config.maxBody]

/-- A frame whose first byte is not 0 brings in a request exactly if it passes the check; no shorter one than a header does
(R126, R128). -/
theorem exists_readInward_eq_valid_iff {code : Byte} (hcode : code ≠ 0) (rest : List Byte) :
    (∃ r : Request, readInward (code :: rest) = .valid r) ↔ frameValid (code :: rest) = true := by
  match rest with
  | [] =>
    rw [readInward, if_neg hcode]
    simp
  | [tag] =>
    rw [readInward, if_neg hcode]
    simp
  | tag :: len :: more =>
    rw [readInward, if_neg hcode]
    split
    next hvalid => exact iff_of_true ⟨_, rfl⟩ hvalid
    next hinvalid => exact iff_of_false (fun ⟨_, h⟩ => Inward.noConfusion h) hinvalid

end Sys2Proof.Machine

namespace Sys2Proof.Claims

open Sys2Proof.Machine

/-- Settles O8: a valid frame passes the frame check, which fails short of a header and past it is the three checks. -/
theorem frameIsValidByItsThreeChecks : Obligations.FrameIsValidByItsThreeChecks := by
  intro code rest hcode
  rw [exists_readInward_eq_valid_iff hcode]
  constructor
  case mp =>
    intro hvalid
    match rest with
    | [] => exact absurd hvalid (by simp)
    | [tag] => exact absurd hvalid (by simp)
    | tag :: len :: more => exact ⟨tag, len, more, rfl, (frameValid_header_iff code tag len more).mp hvalid⟩
  case mpr =>
    rintro ⟨tag, len, more, rfl, hchecks⟩
    exact (frameValid_header_iff code tag len more).mpr hchecks

end Sys2Proof.Claims
end

section
/-! SUPPORT. The notice set: what a post writes to a record, and what READ_NOTICES returns and leaves of a set. -/

namespace Sys2Proof.Machine

/-! ### Kinds -/

theorem NoticeKind.bit_lt (k : NoticeKind) : k.bit < 9 := by cases k <;> decide

/-- No two kinds share a bit of the kinds field (R165). -/
theorem NoticeKind.bit_injective : Function.Injective NoticeKind.bit :=
  Function.LeftInverse.injective (g := NoticeKind.ofNat) fun k => by cases k <;> rfl

theorem KindSet.has_zero (k : NoticeKind) : (0 : KindSet).has k = false := BitVec.getLsbD_zero

/-- The kinds of a set after one is added: that one and those already there (R144, step 2). -/
theorem KindSet.has_add_iff (ks : KindSet) (k k' : NoticeKind) :
    (ks.add k).has k' = true ↔ k' = k ∨ ks.has k' = true := by
  simp only [KindSet.has, KindSet.add, BitVec.getLsbD_or, BitVec.getLsbD_twoPow, NoticeKind.bit_lt, decide_true,
    Bool.true_and, Bool.or_eq_true, decide_eq_true_iff, NoticeKind.bit_injective.eq_iff]
  rw [or_comm, eq_comm]

/-! ### The record a post joins -/

@[simp] theorem Notice.add_granted_grantEpoch (n : Notice) (e : Word16) : (n.add (.granted e)).grantEpoch = some e := rfl

theorem Notice.add_grantEpoch_of_ne {k : Post} (h : ∀ e : Word16, k ≠ .granted e) (n : Notice) :
    (n.add k).grantEpoch = n.grantEpoch := by
  cases k with
  | granted e => exact absurd rfl (h e)
  | _ => rfl

@[simp] theorem Notice.add_lapsed_lastReason (n : Notice) (r : LapseReason) :
    (n.add (.lapsed r)).lastReason = some r := rfl

theorem Notice.add_lastReason_of_ne {k : Post} (h : ∀ r : LapseReason, k ≠ .lapsed r) (n : Notice) :
    (n.add k).lastReason = n.lastReason := by
  cases k with
  | lapsed r => exact absurd rfl (h r)
  | _ => rfl

/-- Where there is no record, a post starts from one with no kinds (R144, step 1). -/
theorem Notice.has_getD_blank_iff (x : Option Notice) (k : NoticeKind) :
    (x.getD Notice.blank).kinds.has k = true ↔ ∃ m : Notice, x = some m ∧ m.kinds.has k = true := by
  cases x with
  | none => exact iff_of_false (ne_true_of_eq_false (KindSet.has_zero k)) (fun ⟨_, h, _⟩ => nomatch h)
  | some m => simp

theorem Notice.grantEpoch_getD_blank (x : Option Notice) :
    (x.getD Notice.blank).grantEpoch = x.bind Notice.grantEpoch := by cases x <;> rfl

theorem Notice.lastReason_getD_blank (x : Option Notice) :
    (x.getD Notice.blank).lastReason = x.bind Notice.lastReason := by cases x <;> rfl

/-- A post writes the joined record, and asserts ATTN exactly on an empty set (R144). -/
theorem State.post_eq (s : State) (p : Port) (l : LeaseId) (k : Post) :
    s.post p l k =
      { s with
        notices := s.notices.set p.val (s.notices[p].set l.val (some ((s.notices[p][l].getD Notice.blank).add k)))
        attn := if ∀ l' : LeaseId, s.notices[p][l'] = none then s.attn.set p.val true else s.attn } := by
  simp only [State.post, noticeSetEmpty_iff]

/-! ### The records returned and left -/

theorem nodup_noticeLeases (v : Vector (Option Notice) 16) : (noticeLeases v).Nodup :=
  List.Nodup.filter _ (by decide)

theorem noticesReturned_eq (v : Vector (Option Notice) 16) : noticesReturned v = (noticeLeases v).take 8 := rfl

theorem getElem_noticesLeft (v : Vector (Option Notice) 16) (l : LeaseId) :
    (noticesLeft v)[l] = if (noticesReturned v).contains l then none else v[l] := getElem_ofFn_fin ..

/-- Of a list without repetition, what is not among the first `n` is what follows them. -/
theorem filter_not_mem_take {α : Type} [DecidableEq α] (n : Nat) {xs : List α} (h : xs.Nodup) :
    (xs.filter fun x => !(xs.take n).contains x) = xs.drop n := by
  have hnone : (xs.take n).filter (fun x => !(xs.take n).contains x) = [] := by
    simp [List.filter_eq_nil_iff]
  have hall : (xs.drop n).filter (fun x => !(xs.take n).contains x) = xs.drop n := by
    refine List.filter_eq_self.mpr fun x hx => ?_
    simpa using fun hx' => List.disjoint_take_drop h le_rfl hx' hx
  calc xs.filter (fun x => !(xs.take n).contains x)
      = (xs.take n ++ xs.drop n).filter (fun x => !(xs.take n).contains x) := by rw [List.take_append_drop]
    _ = xs.drop n := by rw [List.filter_append, hnone, hall, List.nil_append]

/-- The leases with records left are those after the lowest eight (R146). -/
theorem noticeLeases_noticesLeft (v : Vector (Option Notice) 16) :
    noticeLeases (noticesLeft v) = (noticeLeases v).drop 8 := by
  have hleft (l : LeaseId) : (noticesLeft v)[l].isSome = (!(noticesReturned v).contains l && v[l].isSome) := by
    rw [getElem_noticesLeft]
    cases (noticesReturned v).contains l <;> rfl
  calc noticeLeases (noticesLeft v)
      = leaseIds.filter (fun l => !(noticesReturned v).contains l && v[l].isSome) := List.filter_congr fun l _ => hleft l
    _ = (noticeLeases v).filter (fun l => !(noticesReturned v).contains l) := List.filter_filter.symm
    _ = (noticeLeases v).drop 8 := filter_not_mem_take 8 (nodup_noticeLeases v)

theorem noticeSetEmpty_iff_noticeLeases (v : Vector (Option Notice) 16) :
    noticeSetEmpty v = true ↔ noticeLeases v = [] := by
  simp [noticeSetEmpty_iff, noticeLeases, -Fin.getElem_fin]

/-- READ_NOTICES empties a set of at most eight records, and no other (R146). -/
theorem noticeSetEmpty_noticesLeft_iff (v : Vector (Option Notice) 16) :
    noticeSetEmpty (noticesLeft v) = true ↔ (noticeLeases v).length ≤ 8 := by
  rw [noticeSetEmpty_iff_noticeLeases, noticeLeases_noticesLeft, List.drop_eq_nil_iff]

end Sys2Proof.Machine

namespace Sys2Proof.Claims

open Sys2Proof.Machine

/-! ### Posts -/

/-- Settles O51: the record written is the one there, or a blank one, with the post's kind added. -/
theorem postsJoinTheRecord : Obligations.PostsJoinTheRecord := by
  intro s p l k
  refine ⟨(s.notices[p][l].getD Notice.blank).add k, State.post_eq s p l k, ?kinds, ?granted, ?epochKept, ?lapsed,
    ?reasonKept⟩
  case kinds =>
    intro k'
    exact (KindSet.has_add_iff ..).trans (or_congr_right (Notice.has_getD_blank_iff ..))
  case granted =>
    rintro e rfl
    exact Notice.add_granted_grantEpoch ..
  case epochKept =>
    intro hother
    rw [Notice.add_grantEpoch_of_ne hother, Notice.grantEpoch_getD_blank]
  case lapsed =>
    rintro r rfl
    exact Notice.add_lapsed_lastReason ..
  case reasonKept =>
    intro hother
    rw [Notice.add_lastReason_of_ne hother, Notice.lastReason_getD_blank]

/-! ### READ_NOTICES -/

theorem getLsbD_ite_zero {w : Nat} (b : Bool) (x : BitVec w) (i : Nat) :
    (if b then x else 0).getLsbD i = (b && x.getLsbD i) := by
  cases b
  · exact BitVec.getLsbD_zero
  · rfl

/-- The kinds field is the nine kind bits, the high bits 0 (R165). -/
theorem setWidth_eq_kindsWord (ks : KindSet) : ks.setWidth 16 = kindsWord ks := by
  refine BitVec.eq_of_getLsbD_eq fun i hi => ?_
  simp only [kindsWord, BitVec.getLsbD_or, getLsbD_ite_zero, BitVec.getLsbD_setWidth]
  simp only [KindSet.has, NoticeKind.bit]
  interval_cases i <;> simp

theorem reasonByte_eq_reasonCode (r : Option LapseReason) : reasonByte r = reasonCode r := by
  cases r with
  | none => rfl
  | some r => cases r <;> rfl

/-- A record is laid out as R165 gives it. -/
theorem noticeBytes_eq (l : LeaseId) :
    noticeBytes l = fun n =>
      [BitVec.ofNat 8 l.val] ++ wordBytes (kindsWord n.kinds) ++ wordBytes (n.grantEpoch.getD 0) ++
        [reasonCode n.lastReason] := by
  funext n
  rw [noticeBytes, setWidth_eq_kindsWord, reasonByte_eq_reasonCode, nibbleByte]

/-- The answer counts the records returned and those left, and lays out the returned ones (R146, R165). -/
theorem noticesBody_eq (v : Vector (Option Notice) 16) :
    noticesBody v =
      [BitVec.ofNat 8 (noticesReturned v).length,
          BitVec.ofNat 8 ((noticeLeases v).length - (noticesReturned v).length)] ++
        (noticesReturned v).flatMap fun l => v[l].toList.flatMap fun n =>
          [BitVec.ofNat 8 l.val] ++ wordBytes (kindsWord n.kinds) ++ wordBytes (n.grantEpoch.getD 0) ++
            [reasonCode n.lastReason] := by
  have hleft : (noticeLeases (noticesLeft v)).length = (noticeLeases v).length - (noticesReturned v).length := by
    rw [noticeLeases_noticesLeft, List.length_drop, noticesReturned_eq, List.length_take]
    omega
  have hrecord (x : Option Notice) (f : Notice → List Byte) : x.elim [] f = x.toList.flatMap f := by
    cases x with
    | none => rfl
    | some n => exact (List.flatMap_singleton ..).symm
  simp only [noticesBody, hleft, hrecord, noticeBytes_eq, countByte]

/-- READ_NOTICES writes the requester's set and its ATTN, and nothing else (R146). -/
theorem setNotices_noticesLeft (s : State) (p : Port) :
    s.setNotices p (noticesLeft s.notices[p]) =
      { s with
        notices := s.notices.set p.val (Vector.ofFn fun l : Fin 16 =>
          if l ∈ noticesReturned s.notices[p] then none else s.notices[p][l])
        attn := if (noticeLeases s.notices[p]).length ≤ 8 then s.attn.set p.val false else s.attn } := by
  simp only [State.setNotices, noticeSetEmpty_noticesLeft_iff]
  simp only [noticesLeft, List.contains_iff_mem]

/-- Settles O43: the judgement accepts with the records of the lowest eight leases and takes exactly them out of the set. -/
theorem readNoticesReturnsTheLowestEight : Obligations.ReadNoticesReturnsTheLowestEight := by
  intro s p tag htakes
  have hexec : exec .readNotices s =
      .next (s.answer p tag (.accept .ok (noticesBody s.notices[p]) (s.setNotices p (noticesLeft s.notices[p])))) :=
    exec_of_takes htakes
  rw [hexec, State.answer_accept, noticesBody_eq, setNotices_noticesLeft, respond_eq_answered]
  rfl

end Sys2Proof.Claims
end

section
/-! SUPPORT. The frame check: its register as R159 steps it, when it reaches 0, and the check byte of an accepted frame. -/

namespace Sys2Proof.Machine

/-! ### The check register -/

/-- A step turns on the bit it shifts out, the register's most significant (R159). -/
theorem crcStep_eq (r : Byte) : crcStep r = if r.msb then (r <<< 1) ^^^ 0x07 else r <<< 1 := by
  rw [crcStep, BitVec.msb_eq_getLsbD_last, Config.crcPoly]

theorem crcByte_eq_iterate (r b : Byte) : crcByte r b = crcStep^[8] (r ^^^ b) := rfl

@[simp] theorem crcStep_zero : crcStep 0 = 0 := rfl

/-- The polynomial is odd, so a step that combines it in leaves bit 0 set; one that does not loses no set bit. -/
theorem crcStep_eq_zero_iff (r : Byte) : crcStep r = 0 ↔ r = 0 := by
  constructor
  case mp =>
    intro hstep
    rw [crcStep_eq] at hstep
    split at hstep
    next =>
      have hbit : ((r <<< 1) ^^^ (0x07 : Byte)).getLsbD 0 = true := by simp
      rw [hstep] at hbit
      exact absurd hbit (by decide)
    next hmsb =>
      rw [BitVec.msb_eq_decide, decide_eq_true_iff] at hmsb
      bv_omega
  case mpr =>
    rintro rfl
    exact crcStep_zero

theorem iterate_crcStep_eq_zero_iff (n : Nat) (r : Byte) : crcStep^[n] r = 0 ↔ r = 0 := by
  induction n with
  | zero => rfl
  | succ n ih => rw [Function.iterate_succ_apply', crcStep_eq_zero_iff, ih]

/-- Feeding a byte clears the register exactly if the byte equals it. -/
theorem crcByte_eq_zero_iff (r b : Byte) : crcByte r b = 0 ↔ b = r := by
  rw [crcByte_eq_iterate, iterate_crcStep_eq_zero_iff, eq_comm (a := b)]
  exact BitVec.xor_eq_zero_iff

theorem crcFrom_append_singleton (r : Byte) (bytes : List Byte) (b : Byte) :
    crcFrom r (bytes ++ [b]) = crcByte (crcFrom r bytes) b := List.foldl_append

/-! ### Accepted frames -/

/-- A request read is laid out behind a header, in a frame that passes the check (R126, R128). -/
theorem layout_of_readInward_eq_valid {bytes : List Byte} {r : Request} (h : readInward bytes = .valid r) :
    ∃ (len : Byte) (more : List Byte), bytes = r.code :: r.tag :: len :: more ∧ r.body = more.take len.toNat ∧
      frameValid bytes = true := by
  unfold readInward at h
  split at h
  next => nomatch h
  next => split at h <;> nomatch h
  next => split at h <;> nomatch h
  next code tag len more =>
    split at h
    next => nomatch h
    next =>
      split at h
      next hvalid =>
        obtain rfl := Inward.valid.inj h
        exact ⟨len, more, rfl, rfl, hvalid⟩
      next => nomatch h

/-- The byte behind an accepted frame's body is the CRC of the bytes before it (R128, R159). -/
theorem crc_of_readInward_eq_valid {bytes : List Byte} {r : Request} (h : readInward bytes = .valid r) :
    bytes[3 + r.body.length]? = some (crc8 (bytes.take (3 + r.body.length))) := by
  obtain ⟨len, more, rfl, hbody, hvalid⟩ := layout_of_readInward_eq_valid h
  obtain ⟨-, hwhole, hcrc⟩ := (frameValid_header_iff ..).mp hvalid
  have hlength : r.body.length = len.toNat := by
    rw [hbody, List.length_take]
    simp only [List.length_cons] at hwhole
    omega
  rw [hlength]
  exact hcrc

end Sys2Proof.Machine

namespace Sys2Proof.Claims

open Sys2Proof.Machine

/-- Settles O6: the register is R159's step for step, and the byte that clears it is the register itself. -/
theorem frameCheckIsTheCrcAndLeavesZero : Obligations.FrameCheckIsTheCrcAndLeavesZero := by
  refine ⟨?register, ?outward, ?inward, ?remainder⟩
  case register =>
    intro bytes
    rw [← funext crcStep_eq]
    rfl
  case outward => exact fun _ _ _ => rfl
  case inward => exact fun _ _ => crc_of_readInward_eq_valid
  case remainder =>
    intro bytes b
    rw [crcFrom_append_singleton, crcByte_eq_zero_iff]
    rfl

end Sys2Proof.Claims
end

section
/-! SUPPORT. The port laws are not inductive: `PortRecord.slotLaw` does not tie a transaction that carries an answer to a READY
response slot, so a rise can deliver from a slot that is WAITING. -/

namespace Sys2Proof.Claims

open Sys2Proof.Machine

/-- P0 with a request placed, in a transaction that is marked as carrying a stored answer: `slotLaw` allows the pair, and no run from
reset reaches it. -/
def deliveringWhileWaiting : PortRecord :=
  { presence := .present, request := some { code := 0x33, tag := 7, body := [] }, response := .waiting
    transaction := some { outward := [], carriesAnswer := true }, line := true, selected := true, miso := [] }

/-- The reset state with P0 so, and its CS_RISE next. -/
def waitingDeliveryState : State :=
  { State.reset with ports := State.reset.ports.set 0 deliveringWhileWaiting, pending := [.csRise 0 []] }

theorem waitingDeliveryState_lawful : waitingDeliveryState.Lawful := by constructor <;> decide

/-- The rise delivers (R127), so the response slot is EMPTY, and the request stays in its slot (R123). -/
theorem step_waitingDeliveryState :
    step waitingDeliveryState =
      .next { waitingDeliveryState with
        pending := []
        ports := waitingDeliveryState.ports.set 0
          { deliveringWhileWaiting with response := .empty, transaction := none, selected := false } } := rfl

/-- Refutes O57: from that lawful state a rise leaves a request in its slot with the response slot EMPTY, against R123's law. -/
theorem not_stepsKeepThePortLaws : ¬ Obligations.StepsKeepThePortLaws := by
  intro h
  obtain ⟨hport, -⟩ := h _ _ waitingDeliveryState_lawful step_waitingDeliveryState
  obtain ⟨hslot, -⟩ := hport 0
  exact absurd (hslot.mp rfl) (by decide)

end Sys2Proof.Claims
end

section
/-! SUPPORT. The shared operations as whole-state equations: grants, the start and the completion of a lapse, a commit's execution. -/

namespace Sys2Proof.Machine

/-! ### Withdrawing events -/

theorem mem_withoutEvents_flatten {p : Event → Bool} {events : List (List Event)} {e : Event} :
    e ∈ (withoutEvents p events).flatten ↔ e ∈ events.flatten ∧ p e = false := by
  simp only [withoutEvents, List.mem_flatten, List.mem_filter, List.mem_map, bne_iff_ne]
  constructor
  case mp =>
    rintro ⟨_, ⟨⟨b, hb, rfl⟩, -⟩, he⟩
    obtain ⟨hmem, hp⟩ := List.mem_filter.mp he
    exact ⟨⟨b, hb, hmem⟩, by simpa using hp⟩
  case mpr =>
    rintro ⟨⟨b, hb, he⟩, hp⟩
    have hmem : e ∈ b.filter fun e => !p e := List.mem_filter.mpr ⟨he, by simp [hp]⟩
    exact ⟨_, ⟨⟨b, hb, rfl⟩, List.ne_nil_of_mem hmem⟩, hmem⟩

/-- Withdrawing twice withdraws what satisfies either condition. -/
theorem withoutEvents_withoutEvents (p q : Event → Bool) (events : List (List Event)) :
    withoutEvents q (withoutEvents p events) = withoutEvents (fun e => p e || q e) events := by
  induction events with
  | nil => rfl
  | cons b rest ih =>
    have hboth : (b.filter fun e => !p e).filter (fun e => !q e) = b.filter fun e => !(p e || q e) := by
      rw [List.filter_filter]
      exact List.filter_congr fun e _ => by cases p e <;> cases q e <;> rfl
    have hcons (r : Event → Bool) (b : List Event) (bs : List (List Event)) :
        withoutEvents r (b :: bs) =
          if (b.filter fun e => !r e) = [] then withoutEvents r bs else (b.filter fun e => !r e) :: withoutEvents r bs := by
      by_cases h : (b.filter fun e => !r e) = [] <;> simp [withoutEvents, h, -List.filter_eq_nil_iff]
    rw [hcons p, hcons fun e => p e || q e, ← hboth, ← ih]
    by_cases hb : (b.filter fun e => !p e) = []
    · rw [if_pos hb, hb, List.filter_nil, if_pos rfl]
    · rw [if_neg hb, hcons q]

@[simp] theorem withoutEvents_idem (p : Event → Bool) (events : List (List Event)) :
    withoutEvents p (withoutEvents p events) = withoutEvents p events := by
  simp only [withoutEvents_withoutEvents, Bool.or_self]

end Sys2Proof.Machine

namespace Sys2Proof.Claims

open Sys2Proof.Machine

/-! ### The words of the statements, in the model's -/

@[simp] theorem successor_eq (e : Word16) : successor e = nextEpoch e := rfl

@[simp] theorem levelAt_eq (ps : ParamSet) (k : Word16) : levelAt ps k = countLevel ps k := by
  cases hp : ps.polarity <;> by_cases h : k < ps.width <;> simp [levelAt, countLevel, polarityLevel, hp, h]

@[simp] theorem parkedAtOnce_eq (ch : Channel) : parkedAtOnce ch = ch.parked := by
  cases ha : ch.parkAction <;> simp [parkedAtOnce, Channel.parked, parkLevel, ha]

@[simp] theorem lapsedChannel_eq (ch : Channel) (reason : LapseReason) :
    lapsedChannel ch reason = ch.lapsed (reason == .revoked) := by
  unfold lapsedChannel Channel.lapsed
  rw [parkedAtOnce_eq]
  cases hs : ch.state with
  | running => cases ht : ch.parkTiming <;> cases reason <;> simp
  | parking => cases reason <;> simp
  | parked => simp [Channel.parked_of_parked hs]
  | ended => simp

@[simp] theorem startedOn_eq (ch : Channel) (ps : ParamSet) : startedOn ch ps = ch.started ps := by
  simp [startedOn, Channel.started]

@[simp] theorem endedOn_eq (ch : Channel) (ps : ParamSet) : endedOn ch ps = ch.endedSingle ps := by
  cases hp : ps.polarity <;> simp [endedOn, Channel.endedSingle, inactiveLevel, polarityLevel, hp]

@[simp] theorem countedFromZero_eq (ch : Channel) (ps : ParamSet) : countedFromZero ch ps = ch.countedOn ps := by
  simp [countedFromZero, Channel.countedOn]

/-! ### One lease rewritten -/

/-- One lease's record and deadline replaced, its raised expiry withdrawn and its slots emptied: what a grant, a lapse start and a
completion write of the lease table (R33, R55, R61). -/
def rewritten (s : State) (l : LeaseId) (r : Lease) (d : Option Deadline) : State :=
  { s with
    leases := s.leases.set l.val r
    deadlines := s.deadlines.set l.val d
    events := withdrawn s l
    slots := purgedSlots s l }

/-- The channels of one lease replaced. -/
def mapLease (s : State) (l : LeaseId) (f : Channel → Channel) : State :=
  { s with channels := Vector.ofFn fun c : Fin 16 => if s.inLease l c then f s.channels[c] else s.channels[c] }

theorem purgedSlots_congr {s t : State} {l : LeaseId} (hslots : t.slots = s.slots)
    (hdefn : t.leases[l].defn = s.leases[l].defn) : purgedSlots t l = purgedSlots s l := by
  unfold purgedSlots
  congr 1
  funext c
  rw [State.inLease_congr hdefn, hslots]

/-- Purging twice is purging once. -/
theorem purgedSlots_purged {s t : State} {l : LeaseId} (hslots : t.slots = purgedSlots s l)
    (hdefn : t.leases[l].defn = s.leases[l].defn) : purgedSlots t l = purgedSlots s l := by
  rw [purgedSlots, hslots]
  unfold purgedSlots
  congr 1
  funext c
  rw [State.inLease_congr hdefn, getElem_ofFn_fin]
  cases s.inLease l c <;> rfl

/-- The order in which the record, the deadline and the slots are written does not matter where the definition is kept. -/
theorem modLease_setDeadline_purge (s : State) (l : LeaseId) (f : Lease → Lease) (d : Option Deadline)
    (hdefn : (f s.leases[l]).defn = s.leases[l].defn) :
    ((s.modLease l f).setDeadline l d).purge l = rewritten s l (f s.leases[l]) d := by
  have hslots : purgedSlots ((s.modLease l f).setDeadline l d) l = purgedSlots s l :=
    purgedSlots_congr rfl (by rw [State.setDeadline_leases, State.modLease_get, if_pos rfl, hdefn])
  calc ((s.modLease l f).setDeadline l d).purge l
      = { (s.modLease l f).setDeadline l d with slots := purgedSlots ((s.modLease l f).setDeadline l d) l } := rfl
    _ = rewritten s l (f s.leases[l]) d := by rw [hslots]; rfl

theorem purge_modLease_setDeadline (s : State) (l : LeaseId) (f : Lease → Lease) (d : Option Deadline) :
    ((s.purge l).modLease l f).setDeadline l d = rewritten s l (f s.leases[l]) d := by
  simp only [State.purge, State.modLease, State.setDeadline, rewritten, withdrawn, purgedSlots]

theorem rewritten_lease (s : State) (l : LeaseId) (r : Lease) (d : Option Deadline) : (rewritten s l r d).leases[l] = r := by
  rw [rewritten, getElem_set_fin, if_pos rfl]

/-- A second rewriting of the lease leaves nothing of the first. -/
theorem rewritten_rewritten (s : State) (l : LeaseId) {r : Lease} (hdefn : r.defn = s.leases[l].defn) (r' : Lease)
    (d d' : Option Deadline) : rewritten (rewritten s l r d) l r' d' = rewritten s l r' d' := by
  have hslots : purgedSlots (rewritten s l r d) l = purgedSlots s l :=
    purgedSlots_purged rfl (by rw [rewritten_lease, hdefn])
  have hevents : withdrawn (rewritten s l r d) l = withdrawn s l := withoutEvents_idem ..
  rw [rewritten, hslots, hevents]
  simp only [rewritten, Vector.set_set]

theorem rewritten_post (s : State) (l : LeaseId) (r : Lease) (d : Option Deadline) (p : Port) (l' : LeaseId) (k : Post) :
    rewritten (s.post p l' k) l r d = (rewritten s l r d).post p l' k := rfl

/-! ### Grants -/

/-- A grant writes the record and the deadline, and tells the new holder (R33). -/
theorem grant_eq (s : State) (l : LeaseId) (p : Port) (term : Word16) :
    s.grant l p term =
      (rewritten s l (grantedRecord s.leases[l] p term s.leases[l].queue)
        (some { kind := .term, tick := s.tickAfter term })).post p l (.granted (successor s.leases[l].epoch)) :=
  congrArg (State.post · p l _) (modLease_setDeadline_purge s l _ _ rfl)

/-- Settles O52: a grant is one rewriting of the lease and one post. -/
theorem grantHandsTheLeaseOver : Obligations.GrantHandsTheLeaseOver := grant_eq

/-! ### Completions -/

theorem handedOver_eq (s : State) (l : LeaseId) :
    handedOver s l =
      match s.leases[l].queue with
      | [] => rewritten s l (handedOn s.leases[l]) (handedDeadline s s.leases[l])
      | w :: _ =>
        (rewritten s l (handedOn s.leases[l]) (handedDeadline s s.leases[l])).post w.port l
          (.granted (successor s.leases[l].epoch)) := rfl

theorem handedOver_of_nil {s : State} {l : LeaseId} (h : s.leases[l].queue = []) :
    handedOver s l = rewritten s l (vacantRecord s.leases[l]) none := by
  rw [handedOver_eq, handedOn, handedDeadline, h]

theorem handedOver_of_cons {s : State} {l : LeaseId} {w : Waiter} {rest : List Waiter} (h : s.leases[l].queue = w :: rest) :
    handedOver s l =
      (rewritten s l (grantedRecord { s.leases[l] with commitPending := false } w.port w.term rest)
        (some { kind := .term, tick := s.tickAfter w.term })).post w.port l (.granted (successor s.leases[l].epoch)) := by
  rw [handedOver_eq, handedOn, handedDeadline, h]
  rfl

theorem handedOn_defn (r : Lease) : (handedOn r).defn = r.defn := by
  unfold handedOn
  split <;> rfl

/-- A completion reads the queue, the epoch and the definition of the record, and of nothing else of it. -/
theorem handedOn_lapsingRecord (r : Lease) (reason : LapseReason) : handedOn (lapsingRecord r reason) = handedOn r := by
  unfold handedOn lapsingRecord
  dsimp only
  split <;> rfl

/-- The completion of a lapse hands the lease on (R35, R61). -/
theorem lapseComplete_eq {s : State} {l : LeaseId} (hpending : s.leases[l].commitPending = false) :
    s.lapseComplete l = handedOver s l := by
  obtain ⟨hq, hc⟩ | ⟨w, rest, hq, hc⟩ := s.lapseComplete_cases l
  · have hrecord : s.leases[l].vacated = vacantRecord s.leases[l] := by
      rw [Lease.vacated, vacantRecord, ← hq, ← hpending]
    rw [hc, handedOver_of_nil hq, purge_modLease_setDeadline, hrecord]
  · have hvacated : (rewritten s l { s.leases[l].vacated with queue := rest } none).leases[l] =
        { s.leases[l].vacated with queue := rest } := rewritten_lease ..
    have hrecord : grantedRecord { s.leases[l].vacated with queue := rest } w.port w.term rest =
        grantedRecord { s.leases[l] with commitPending := false } w.port w.term rest := by
      rw [Lease.vacated, grantedRecord, grantedRecord, ← hpending]
    have hgrant (t : State) (r : Lease) (hl : t.leases[l] = r) (hdefn : r.defn = s.leases[l].defn)
        (hnow : t.now = s.now) (hrest : ∀ x d, rewritten t l x d = rewritten s l x d) :
        t.grant l w.port w.term =
          (rewritten s l (grantedRecord r w.port w.term r.queue) (some { kind := .term, tick := s.tickAfter w.term })).post
            w.port l (.granted (successor r.epoch)) := by
      rw [grant_eq, hl, hrest, State.tickAfter, State.tickAfter, hnow]
    rw [hc, handedOver_of_cons hq, ← hrecord]
    refine hgrant _ { s.leases[l].vacated with queue := rest } ?_ rfl (by simp only [State.modLease_now, State.purge_now]) ?_
    · rw [State.modLease_get, if_pos rfl, State.modLease_get, if_pos rfl]
      rfl
    · intro x d
      have hslots : purgedSlots (((s.purge l).modLease l fun r => r.vacated).modLease l fun r => { r with queue := rest }) l =
          purgedSlots s l :=
        purgedSlots_purged rfl (by
          rw [State.modLease_get, if_pos rfl, State.modLease_get, if_pos rfl]
          rfl)
      rw [rewritten, hslots]
      simp only [rewritten, withdrawn, State.purge, State.modLease, Vector.set_set]

/-- A LAPSING lease with no channel PARKING is handed on (R61). -/
theorem completeIfParked_eq {s : State} {l : LeaseId} (hstate : s.leases[l].state = .lapsing)
    (hpending : s.leases[l].commitPending = false) (hparking : s.anyParking l = false) :
    s.completeIfParked l = handedOver s l := by
  rw [← lapseComplete_eq hpending, State.completeIfParked, hstate, hparking]
  rfl

theorem completeIfParked_of_not {s : State} {l : LeaseId} (h : s.leases[l].state ≠ .lapsing ∨ s.anyParking l = true) :
    s.completeIfParked l = s := by
  obtain ⟨-, hc⟩ | ⟨hstate, hparking, -⟩ := s.completeIfParked_cases l
  · exact hc
  · obtain hne | hany := h
    · exact absurd hstate hne
    · exact absurd (hany.symm.trans hparking) (by decide)

/-! ### The start of a lapse -/

/-- Only EXPIRED and REVOKED are told to the holder at a lapse start; RESET is not the reason of one (R57). -/
theorem posts_iff {reason : LapseReason} (h : reason ≠ .reset) :
    reason.posts = true ↔ reason = .expired ∨ reason = .revoked := by
  cases reason <;> simp [LapseReason.posts] at *

/-- The start of a lapse before its notice: the lease rewritten, and its channels by R56. -/
def lapseBegun (s : State) (l : LeaseId) (reason : LapseReason) : State :=
  rewritten (mapLease s l fun ch => ch.lapsed (reason == .revoked)) l (lapsingRecord s.leases[l] reason) none

/-- A lapse start is the lease begun to lapse, told to its holder for the reasons that post (R55, R57). -/
theorem lapseStart_eq (s : State) (l : LeaseId) (reason : LapseReason) :
    s.lapseStart l reason =
      if reason.posts then (lapseBegun s l reason).postHolder l (.lapsed reason) else lapseBegun s l reason := by
  have hbegun :
      ((((s.modLease l fun r => r.lapseStarted reason).setDeadline l none).purge l).mapChannels fun c ch =>
        if (((s.modLease l fun r => r.lapseStarted reason).setDeadline l none).purge l).inLease l c then
          ch.lapsed (reason == .revoked) else ch) = lapseBegun s l reason := by
    simp only [State.lapsingRecord_inLease]
    rw [modLease_setDeadline_purge s l (fun r => r.lapseStarted reason) none rfl]
    rfl
  rw [State.lapseStart, hbegun]

theorem lapseBegun_lease (s : State) (l : LeaseId) (reason : LapseReason) :
    (lapseBegun s l reason).leases[l] = lapsingRecord s.leases[l] reason := rewritten_lease ..

theorem lapseStart_of_holder {s : State} {l : LeaseId} {p : Port} {reason : LapseReason}
    (hholder : s.leases[l].holder = some p) :
    s.lapseStart l reason =
      if reason.posts then (lapseBegun s l reason).post p l (.lapsed reason) else lapseBegun s l reason := by
  have hbegun : (lapseBegun s l reason).leases[l].holder = some p := by rw [lapseBegun_lease]; exact hholder
  rw [lapseStart_eq, State.postHolder_of_holder hbegun]

/-- Settles O53: the start, the completion and its two outcomes, each by its equation. -/
theorem lapseStartsAndCompletes : Obligations.LapseStartsAndCompletes := by
  refine ⟨?start, fun _ _ _ => rfl, ?completes, ?stays⟩
  case start =>
    intro s l p reason hholder hreason
    simp only [lapseStart_of_holder hholder, posts_iff hreason, lapsedChannel_eq]
    rfl
  case completes =>
    intro s l hstate hpending hnone
    have hparking : s.anyParking l = false := by
      rw [Bool.eq_false_iff, Ne, State.anyParking_iff]
      exact fun ⟨c, hin, hc⟩ => hnone c hin hc
    rw [completeIfParked_eq hstate hpending hparking]
    refine ⟨fun hq => handedOver_of_nil hq, fun w rest hq => ?_⟩
    rw [handedOver_of_cons hq]
    have hrecord : ({ s.leases[l] with commitPending := false } : Lease) = s.leases[l] := by rw [← hpending]
    rw [hrecord]
    rfl
  case stays =>
    intro s l h
    refine completeIfParked_of_not (h.imp_right ?_)
    exact (State.anyParking_iff s l).mpr

/-! ### Commits -/

/-- A commit's execution: the staged channels started on their sets, the slots emptied, commit pending no (R99). -/
def commitDone (s : State) (l : LeaseId) : State :=
  { s with
    leases := s.leases.set l.val { s.leases[l] with commitPending := false }
    slots := purgedSlots s l
    channels := (s.startStaged l).channels }

theorem executeCommit_eq (s : State) (l : LeaseId) : s.executeCommit l = (commitDone s l).postHolder l .committed := by
  have hslots : purgedSlots (s.startStaged l) l = purgedSlots s l :=
    purgedSlots_congr (State.startStaged_slots ..) (by rw [State.startStaged_leases])
  have hpurge : (s.startStaged l).purge l = { s.startStaged l with slots := purgedSlots s l } := by
    rw [← hslots]; rfl
  rw [State.executeCommit, hpurge]
  rfl

theorem startStaged_get (s : State) (l : LeaseId) (c : ChannelId) :
    (s.startStaged l).channels[c] =
      if s.inLease l c then
        s.slots[c].elim s.channels[c] fun x => { s.channels[c].started x.params with active := some x.params }
      else s.channels[c] := by
  rw [State.startStaged, State.mapChannels_get]
  cases s.inLease l c <;> cases s.slots[c] <;> rfl

theorem vector_ext_fin {α : Type} {n : Nat} {v w : Vector α n} (h : ∀ i : Fin n, v[i] = w[i]) : v = w :=
  Vector.ext fun i hi => h ⟨i, hi⟩

/-- Settles O54: the execution is the group started and the holder told. -/
theorem commitExecutionStartsTheGroup : Obligations.CommitExecutionStartsTheGroup := by
  intro s l p hholder
  have hdone : (commitDone s l).leases[l].holder = some p := by
    rw [commitDone, getElem_set_fin, if_pos rfl]
    exact hholder
  rw [executeCommit_eq, State.postHolder_of_holder hdone, commitDone]
  congr 2
  refine vector_ext_fin fun c => ?_
  rw [startStaged_get, getElem_ofFn_fin]
  cases s.slots[c] with
  | none => exact ite_self _
  | some x => simp only [startedOn_eq, Option.elim_some]

end Sys2Proof.Claims
end

section
/-! SUPPORT. Bodies and frames: an accepted body is the layout of the request read from it, and a clocked frame is read as the bytes
sent. -/

namespace Sys2Proof

/-! ### Bodies -/

theorem body_decodeLeaseOnly {mk : LeaseId → HostRequest} (hmk : ∀ l, (mk l).body = [nibbleByte l]) {body : List Byte}
    {q : HostRequest} (h : decodeLeaseOnly mk body = some q) : q.body = body := by
  unfold decodeLeaseOnly at h
  split at h
  · obtain ⟨l, hl, rfl⟩ := Option.map_eq_some_iff.mp h
    rw [hmk, nibbleByte_of_nibbleOf hl]
  · cases h

theorem body_decodeLeaseEpoch {mk : LeaseId → Word16 → HostRequest}
    (hmk : ∀ l e, (mk l e).body = [nibbleByte l] ++ wordBytes e) {body : List Byte} {q : HostRequest}
    (h : decodeLeaseEpoch mk body = some q) : q.body = body := by
  unfold decodeLeaseEpoch at h
  split at h
  · obtain ⟨l, hl, rfl⟩ := Option.map_eq_some_iff.mp h
    rw [hmk, nibbleByte_of_nibbleOf hl, wordBytes_wordOf]
    rfl
  · cases h

theorem body_decodeEmpty {r : HostRequest} (hr : r.body = []) {body : List Byte} {q : HostRequest}
    (h : decodeEmpty r body = some q) : q.body = body := by
  unfold decodeEmpty at h
  split at h
  · cases h; exact hr
  · cases h

/-- The nine bytes read as a set are its layout, and the set is valid (R72, R162). -/
theorem ParamSet.bytes_of_ofBytes {m d p1 p0 w1 w0 f1 f0 pol : Byte} {ps : ParamSet}
    (h : ParamSet.ofBytes m d p1 p0 w1 w0 f1 f0 pol = some ps) :
    ps.bytes = [m, d, p1, p0, w1, w0, f1, f0, pol] ∧ ps.valid = true := by
  unfold ParamSet.ofBytes at h
  split at h
  · next hm hd hpol =>
    obtain ⟨hvalid, heq⟩ := Option.ite_none_right_eq_some.mp h
    cases heq
    simp [ParamSet.bytes, Mode.byte_of_ofByte hm, Divider.byte_of_ofByte hd, Polarity.byte_of_ofByte hpol, hvalid]
  · cases h

theorem layout_decodeDefine {body : List Byte} {q : HostRequest} (h : decodeDefine body = some q) :
    q.body = body ∧ q.inRange = true := by
  unfold decodeDefine at h
  split at h
  · split at h
    · next hl hld =>
      obtain ⟨hrange, heq⟩ := Option.ite_none_right_eq_some.mp h
      cases heq
      simp [HostRequest.body, HostRequest.inRange, nibbleByte_of_nibbleOf hl, nibbleByte_of_nibbleOf hld, hrange]
    · cases h
  · cases h

theorem layout_decodeConfigureChannel {body : List Byte} {q : HostRequest} (h : decodeConfigureChannel body = some q) :
    q.body = body ∧ q.inRange = true := by
  unfold decodeConfigureChannel at h
  split at h
  · split at h
    · next hc ha ht hg =>
      cases h
      simp [HostRequest.body, HostRequest.inRange, nibbleByte_of_nibbleOf hc, ParkAction.byte_of_ofByte ha,
        ParkTiming.byte_of_ofByte ht, HaltGroup.byte_of_ofByte hg]
    · cases h
  · cases h

theorem layout_decodeAcquire {body : List Byte} {q : HostRequest} (h : decodeAcquire body = some q) :
    q.body = body ∧ q.inRange = true := by
  unfold decodeAcquire at h
  split at h
  · split at h
    · next hl hw =>
      obtain ⟨hrange, heq⟩ := Option.ite_none_right_eq_some.mp h
      cases heq
      simp [HostRequest.body, HostRequest.inRange, nibbleByte_of_nibbleOf hl, flagByte_of_waitOf hw, hrange]
    · cases h
  · cases h

theorem layout_decodeRenew {body : List Byte} {q : HostRequest} (h : decodeRenew body = some q) :
    q.body = body ∧ q.inRange = true := by
  unfold decodeRenew at h
  split at h
  · split at h
    · next hl =>
      obtain ⟨hrange, heq⟩ := Option.ite_none_right_eq_some.mp h
      cases heq
      exact ⟨by simp [HostRequest.body, nibbleByte_of_nibbleOf hl], hrange⟩
    · cases h
  · cases h

theorem layout_decodeTransfer {body : List Byte} {q : HostRequest} (h : decodeTransfer body = some q) :
    q.body = body ∧ q.inRange = true := by
  unfold decodeTransfer at h
  split at h
  · split at h
    · next hl ht =>
      cases h
      simp [HostRequest.body, HostRequest.inRange, nibbleByte_of_nibbleOf hl, Target.byte_of_ofByte ht]
    · cases h
  · cases h

theorem layout_decodeStage {body : List Byte} {q : HostRequest} (h : decodeStage body = some q) :
    q.body = body ∧ q.inRange = true := by
  unfold decodeStage at h
  split at h
  · split at h
    · next hl hc hps =>
      cases h
      obtain ⟨hbytes, hvalid⟩ := ParamSet.bytes_of_ofBytes hps
      simp [HostRequest.body, HostRequest.inRange, nibbleByte_of_nibbleOf hl, nibbleByte_of_nibbleOf hc, hbytes, hvalid]
    · cases h
  · cases h

theorem layout_decodeDiscard {body : List Byte} {q : HostRequest} (h : decodeDiscard body = some q) :
    q.body = body ∧ q.inRange = true := by
  unfold decodeDiscard at h
  split at h
  · split at h
    · next hl hc =>
      cases h
      simp [HostRequest.body, HostRequest.inRange, nibbleByte_of_nibbleOf hl, nibbleByte_of_nibbleOf hc]
    · cases h
  · cases h

theorem layout_decodePark {body : List Byte} {q : HostRequest} (h : decodePark body = some q) :
    q.body = body ∧ q.inRange = true := by
  unfold decodePark at h
  split at h
  · split at h
    · next hl =>
      obtain ⟨hrange, heq⟩ := Option.ite_none_left_eq_some.mp h
      cases heq
      exact ⟨by simp [HostRequest.body, nibbleByte_of_nibbleOf hl], decide_eq_true hrange⟩
    · cases h
  · cases h

/-- An accepted body is the layout of the request read from it, and the request is in range (R21, R160 to R162). -/
theorem layout_decodeBody {k : ReqCode} {body : List Byte} {q : HostRequest} (h : decodeBody k body = some q) :
    q.body = body ∧ q.inRange = true := by
  cases k with
  | undefine | revoke | withdraw | queryLease | queryChannel =>
    refine ⟨body_decodeLeaseOnly (fun _ => rfl) h, ?_⟩
    obtain ⟨l, rfl⟩ := decodeLeaseOnly_eq_some h
    rfl
  | release | commit | resume =>
    refine ⟨body_decodeLeaseEpoch (fun _ _ => rfl) h, ?_⟩
    obtain ⟨l, e, rfl⟩ := decodeLeaseEpoch_eq_some h
    rfl
  | resetLeases | readNotices | queryDevice =>
    refine ⟨body_decodeEmpty rfl h, ?_⟩
    cases decodeEmpty_eq_some h
    rfl
  | define => exact layout_decodeDefine h
  | configureChannel => exact layout_decodeConfigureChannel h
  | acquire => exact layout_decodeAcquire h
  | renew => exact layout_decodeRenew h
  | transfer => exact layout_decodeTransfer h
  | stage => exact layout_decodeStage h
  | discard => exact layout_decodeDiscard h
  | park => exact layout_decodePark h

end Sys2Proof

namespace Sys2Proof.Machine

/-! ### Bits and bytes -/

theorem byteOfBits_bits (b : Byte) :
    byteOfBits (b.getLsbD 7) (b.getLsbD 6) (b.getLsbD 5) (b.getLsbD 4) (b.getLsbD 3) (b.getLsbD 2) (b.getLsbD 1)
      (b.getLsbD 0) = b := by
  revert b; decide

/-- Whole bytes clocked are read back, and then what the bits after them make (R124). -/
theorem bytesOf_bitsOf_append (bytes : List Byte) (after : List Bool) :
    bytesOf (bitsOf bytes ++ after) = bytes ++ bytesOf after := by
  induction bytes with
  | nil => rfl
  | cons b rest ih =>
    rw [bitsOf, List.append_assoc, bitsOfByte]
    simp only [List.cons_append, List.nil_append, bytesOf, byteOfBits_bits, ih]

@[simp] theorem length_bitsOf (bytes : List Byte) : (bitsOf bytes).length = 8 * bytes.length := by
  induction bytes with
  | nil => rfl
  | cons b rest ih => simp only [bitsOf, bitsOfByte, List.length_append, ih, List.length_cons, List.length_nil]; omega

theorem bitsOf_replicate_ones (n : Nat) : bitsOf (List.replicate n 0xFF) = List.replicate (8 * n) true := by
  induction n with
  | zero => rfl
  | succ n ih => rw [List.replicate_succ, bitsOf, ih, Nat.mul_succ, Nat.add_comm, List.replicate_add]; rfl

/-- No eight bits, no byte (R124). -/
theorem bytesOf_of_length_lt {bits : List Bool} (h : bits.length < 8) : bytesOf bits = [] := by
  unfold bytesOf
  split
  · simp only [List.length_cons] at h; omega
  · rfl

/-! ### Whole frames -/

/-- The CRC of a run of bytes, written behind it, stands at the run's length (R158, R159). -/
theorem crc8_stands_behind {covered : List Byte} {n : Nat} (h : covered.length = n) (after : List Byte) :
    n + 1 ≤ (covered ++ crc8 covered :: after).length ∧
      (covered ++ crc8 covered :: after)[n]? = some (crc8 ((covered ++ crc8 covered :: after).take n)) := by
  subst h
  rw [List.length_append, List.length_cons, List.take_left, List.getElem?_append_right (Nat.le_refl _), Nat.sub_self]
  exact ⟨by omega, rfl⟩

/-- A frame whose body fits passes the frame check, whatever was clocked behind it (R128, R158). -/
theorem frameValid_frameOf_append (code tag : Byte) {body : List Byte} (h : body.length ≤ 60) (after : List Byte) :
    frameValid (frameOf code tag body ++ after) = true := by
  have hlen : (BitVec.ofNat 8 body.length).toNat = body.length := by
    rw [BitVec.toNat_ofNat, Nat.mod_eq_of_lt (by omega)]
  have hcheck : frameOf code tag body ++ after =
      ([code, tag, BitVec.ofNat 8 body.length] ++ body) ++ crc8 ([code, tag, BitVec.ofNat 8 body.length] ++ body) :: after :=
    List.append_assoc ..
  have hcovered : ([code, tag, BitVec.ofNat 8 body.length] ++ body).length = 3 + (BitVec.ofNat 8 body.length).toNat := by
    rw [hlen, List.length_append]
    rfl
  rw [hcheck]
  exact (frameValid_header_iff ..).mpr ⟨hlen.trans_le h, crc8_stands_behind hcovered after⟩

/-- A frame clocked whole is read as the request it carries (R126, R128). -/
theorem readInward_frameOf_append {code : Byte} (hcode : code ≠ 0) (tag : Byte) {body : List Byte} (h : body.length ≤ 60)
    (after : List Byte) :
    readInward (frameOf code tag body ++ after) = .valid { code := code, tag := tag, body := body } := by
  have hvalid := frameValid_frameOf_append code tag h after
  have hlen : (BitVec.ofNat 8 body.length).toNat = body.length := by
    rw [BitVec.toNat_ofNat, Nat.mod_eq_of_lt (by omega)]
  simp only [frameOf, List.cons_append, List.nil_append, List.append_assoc] at hvalid ⊢
  rw [readInward, if_neg hcode, if_pos hvalid, hlen, List.take_left]

theorem readInward_of_head_zero {bytes : List Byte} (h : bytes.head? = some 0) : readInward bytes = .nop := by
  match bytes with
  | [] => rfl
  | [code] | [code, tag] | code :: tag :: len :: rest =>
    obtain rfl : code = 0 := Option.some.inj h
    rfl

end Sys2Proof.Machine

namespace Sys2Proof.Claims

open Sys2Proof.Machine

theorem bitsMsbFirst_eq (bytes : List Byte) : bitsMsbFirst bytes = bitsOf bytes := by
  induction bytes with
  | nil => rfl
  | cons b rest ih => exact congrArg (bitsOfByte b ++ ·) ih

/-- Settles O4: each layout's decoder undoes it, field by field. -/
theorem requestBodiesDecodeBack : Obligations.RequestBodiesDecodeBack := fun _ h => decodeBody_body h

/-- Settles O5: each decoder accepts only the bytes its request writes, and only in range. -/
theorem decodedBodiesEncodeBack : Obligations.DecodedBodiesEncodeBack := fun _ _ _ h => ⟨decodeBody_code h, layout_decodeBody h⟩

/-- Settles O7: the bytes clocked are the bytes sent, and then the frame's own check decides. -/
theorem clockedFramesTravelBothWays : Obligations.ClockedFramesTravelBothWays := by
  refine ⟨?request, ?nop, ?unfinished, ?outward⟩
  case request =>
    intro code tag body after hcode hfits
    rw [bitsMsbFirst_eq, bytesOf_bitsOf_append, readInward_frameOf_append hcode tag hfits]
  case nop =>
    intro bytes after hhead
    rw [bitsMsbFirst_eq, bytesOf_bitsOf_append]
    exact readInward_of_head_zero (by rw [List.head?_append, hhead]; rfl)
  case unfinished =>
    intro bits hshort
    rw [bytesOf_of_length_lt hshort]
    rfl
  case outward =>
    intro frame fill
    have hfill : shiftedBits frame (8 * (frame.length + fill)) = bitsOf frame ++ bitsOf (List.replicate fill 0xFF) := by
      rw [shiftedBits, List.take_append, length_bitsOf, List.take_of_length_le (by rw [length_bitsOf]; omega),
        List.take_replicate, bitsOf_replicate_ones]
      congr 2
      omega
    rw [hfill, bytesOf_bitsOf_append]
    congr 1
    simpa [bytesOf] using bytesOf_bitsOf_append (List.replicate fill 0xFF) []

end Sys2Proof.Claims
end

section
/-! SUPPORT. What a command can do, said once: which requests are accepted and with what state, and the effect of every command. -/

namespace Sys2Proof.Machine

/-! ### Accepted requests -/

/-- A request of a port that is accepted, with the state its judgement leaves: each row of the request tables with the checks it has
passed (R17 to R31, R38, R49, R62 to R65, R88, R93 to R97, R108 to R111, R146, R152). -/
inductive Accepted (s : State) (p : Port) : HostRequest → State → Prop where
  | define (l : LeaseId) (d : LeaseDef) (hport : p = 0) (hstate : s.leases[l].state = .undefined)
      (hfree : s.channelTaken d.channels = false) : Accepted s p (.define l d) (s.defined l d)
  | undefine (l : LeaseId) (hport : p = 0) (hstate : s.leases[l].state = .vacant) : Accepted s p (.undefine l) (s.undefined l)
  | configureChannel (c : ChannelId) (a : ParkAction) (t : ParkTiming) (g : HaltGroup) (hport : p = 0)
      (hfree : s.channelBusy c = false) :
      Accepted s p (.configureChannel c a t g) (s.modChannel c fun ch => ch.configured s.haltTaken a t g)
  | revoke (l : LeaseId) (hport : p = 0) (hdefined : s.leases[l].state ≠ .undefined) (hvacant : s.leases[l].state ≠ .vacant) :
      Accepted s p (.revoke l) (s.revoked l)
  | resetLeases (hport : p = 0) : Accepted s p .resetLeases (s.eachLease fun l t => t.resetLease l)
  | acquire (l : LeaseId) (term : Word16) (wait : Bool) (hterm : s.leases[l].termWithin term = true)
      (hstate : s.leases[l].state = .vacant) : Accepted s p (.acquire l term wait) (s.grant l p term)
  | queue (l : LeaseId) (term : Word16) (hterm : s.leases[l].termWithin term = true)
      (hdefined : s.leases[l].state ≠ .undefined) (hvacant : s.leases[l].state ≠ .vacant)
      (hholder : s.leases[l].heldBy p = false) (hentry : s.leases[l].entryOf p = none) :
      Accepted s p (.acquire l term true)
        (s.modLease l fun r => { r with queue := r.queue ++ [{ port := p, term := term }] })
  | withdraw (l : LeaseId) : Accepted s p (.withdraw l) (s.modLease l fun r => { r with queue := r.queueWithout p })
  | renew (l : LeaseId) (e newTerm : Word16) (hholder : s.leases[l].heldBy p = true)
      (hterm : newTerm ≠ 0 → s.leases[l].termWithin newTerm = true) : Accepted s p (.renew l e newTerm) (s.renewed l newTerm)
  | transfer (l : LeaseId) (e : Word16) (target : Target) (w : Waiter) (hholder : s.leases[l].heldBy p = true)
      (hpending : s.leases[l].commitPending = false) (hw : s.leases[l].targetEntry target = some w) :
      Accepted s p (.transfer l e target) (s.transferred l w)
  | release (l : LeaseId) (e : Word16) (hholder : s.leases[l].heldBy p = true) :
      Accepted s p (.release l e) (s.lapse l .released)
  | stage (l : LeaseId) (e : Word16) (c : ChannelId) (ps : ParamSet) (hholder : s.leases[l].heldBy p = true)
      (hin : s.inLease l c = true) (hpending : s.leases[l].commitPending = false) :
      Accepted s p (.stage l e c ps) (s.setSlot c (some { params := ps, tag := s.leases[l].epoch }))
  | discard (l : LeaseId) (e : Word16) (c : ChannelId) (hholder : s.leases[l].heldBy p = true)
      (hin : s.inLease l c = true) (hpending : s.leases[l].commitPending = false) :
      Accepted s p (.discard l e c) (s.setSlot c none)
  | commit (l : LeaseId) (e : Word16) (hholder : s.leases[l].heldBy p = true)
      (hstaged : s.countStaged l ≠ 0) (hhalted : s.anyHalted l = false) : Accepted s p (.commit l e) (s.committed l)
  | resume (l : LeaseId) (e : Word16) (hholder : s.leases[l].heldBy p = true) (hpending : s.leases[l].commitPending = false)
      (hhalted : ∀ c : ChannelId, s.inLease l c = true → s.channels[c].resumable = true → s.channels[c].halted = false) :
      Accepted s p (.resume l e) (s.resumed l)
  | park (l : LeaseId) (e : Word16) (set : ChannelSet) (hholder : s.leases[l].heldBy p = true)
      (hin : ∀ c : ChannelId, set.getLsbD c.val = true → s.inLease l c = true) :
      Accepted s p (.park l e set) (s.parkListed l set)
  | readNotices : Accepted s p .readNotices (s.setNotices p (noticesLeft s.notices[p]))
  | queryLease (l : LeaseId) : Accepted s p (.queryLease l) s
  | queryChannel (c : ChannelId) : Accepted s p (.queryChannel c) s
  | queryDevice : Accepted s p .queryDevice s

/-- A run of checks that accepts has none failing, and goes on to the acceptance. -/
theorem of_checked_eq_accept {checks : List (Bool × Status)} {k : Judgement} {st : Status} {body : List Byte} {u : State}
    (h : checked checks k = .accept st body u) : (∀ c ∈ checks, c.1 = false) ∧ k = .accept st body u := by
  obtain ⟨st', -, hc⟩ | ⟨hnone, hc⟩ := checked_cases checks k
  · rw [hc] at h; cases h
  · exact ⟨firstFailure_eq_none.mp hnone, hc.symm.trans h⟩

theorem of_supervisorCheck {p : Port} (h : (supervisorCheck p).1 = false) : p = 0 := by
  simpa [supervisorCheck, supervisor] using h

theorem of_definedCheck {s : State} {l : LeaseId} (h : (s.definedCheck l).1 = false) : s.leases[l].state ≠ .undefined := by
  simpa [State.definedCheck] using h

/-- The holder checks passed name the holder (R22). -/
theorem of_holderChecks {s : State} {p : Port} {l : LeaseId} {e : Word16} {passesGrace : Bool}
    {rest : List (Bool × Status)} (h : ∀ c ∈ s.holderChecks p l e passesGrace ++ rest, c.1 = false) :
    s.leases[l].heldBy p = true ∧ ∀ c ∈ rest, c.1 = false := by
  constructor
  · simpa using h (!s.leases[l].heldBy p, .notHolder) (by simp [State.holderChecks])
  · exact fun c hc => h c (List.mem_append_right _ hc)

/-- The set holds no channel outside the lease (R110). -/
theorem subset_of_and_not_eq_zero {set whole : ChannelSet} (h : set &&& ~~~whole = 0) (c : ChannelId)
    (hc : set.getLsbD c.val = true) : whole.getLsbD c.val = true := by
  have hbit : (set &&& ~~~whole).getLsbD c.val = false := by rw [h]; exact BitVec.getLsbD_zero
  simpa [hc] using hbit

/-- An accepted request passed the checks of its table, and leaves the state its row gives. -/
theorem State.accepted_of_judge {s : State} {p : Port} {q : HostRequest} {st : Status} {body : List Byte} {u : State}
    (h : s.judge p q = .accept st body u) : Accepted s p q u := by
  cases q with
  | define l d =>
    obtain ⟨hchecks, hk⟩ := of_checked_eq_accept h
    cases hk
    simp only [List.forall_mem_cons] at hchecks
    obtain ⟨hport, hstate, hfree, -⟩ := hchecks
    exact .define l d (of_supervisorCheck hport) (bne_eq_false_iff_eq.mp hstate) hfree
  | undefine l =>
    obtain ⟨hchecks, hk⟩ := of_checked_eq_accept h
    cases hk
    simp only [List.forall_mem_cons] at hchecks
    obtain ⟨hport, -, hstate, -⟩ := hchecks
    exact .undefine l (of_supervisorCheck hport) (bne_eq_false_iff_eq.mp hstate)
  | configureChannel c a t g =>
    obtain ⟨hchecks, hk⟩ := of_checked_eq_accept h
    cases hk
    simp only [List.forall_mem_cons] at hchecks
    obtain ⟨hport, hfree, -⟩ := hchecks
    exact .configureChannel c a t g (of_supervisorCheck hport) hfree
  | revoke l =>
    obtain ⟨hchecks, hk⟩ := of_checked_eq_accept h
    cases hk
    simp only [List.forall_mem_cons] at hchecks
    obtain ⟨hport, hdefined, hvacant, -⟩ := hchecks
    exact .revoke l (of_supervisorCheck hport) (of_definedCheck hdefined) (beq_eq_false_iff_ne.mp hvacant)
  | resetLeases =>
    obtain ⟨hchecks, hk⟩ := of_checked_eq_accept h
    cases hk
    simp only [List.forall_mem_cons] at hchecks
    obtain ⟨hport, -⟩ := hchecks
    exact .resetLeases (of_supervisorCheck hport)
  | acquire l t w =>
    obtain ⟨hchecks, hk⟩ := of_checked_eq_accept h
    simp only [List.forall_mem_cons] at hchecks
    obtain ⟨hdefined, hterm, -⟩ := hchecks
    have hwithin : s.leases[l].termWithin t = true := by simpa using hterm
    unfold State.acquireByState at hk
    split_ifs at hk with hvacant hholder hentry hwait
    · cases hk
      exact .acquire l t w hwithin hvacant
    · cases hk
      subst hwait
      exact .queue l t hwithin (of_definedCheck hdefined) hvacant (eq_false_of_ne_true hholder)
        (by simpa using hentry)
  | withdraw l =>
    obtain ⟨-, hk⟩ := of_checked_eq_accept h
    cases hk
    exact .withdraw l
  | renew l e t =>
    obtain ⟨hchecks, hk⟩ := of_checked_eq_accept h
    cases hk
    obtain ⟨hholder, hrest⟩ := of_holderChecks hchecks
    simp only [List.forall_mem_cons, Bool.and_eq_false_iff, bne_eq_false_iff_eq, Bool.not_eq_false'] at hrest
    obtain ⟨hterm, -⟩ := hrest
    exact .renew l e t hholder hterm.resolve_left
  | transfer l e target =>
    obtain ⟨hchecks, hk⟩ := of_checked_eq_accept h
    obtain ⟨hholder, hrest⟩ := of_holderChecks hchecks
    simp only [List.forall_mem_cons] at hrest
    obtain ⟨hpending, -⟩ := hrest
    split at hk
    · next w hw =>
      cases hk
      exact .transfer l e target w hholder hpending hw
    · cases hk
  | release l e =>
    obtain ⟨hchecks, hk⟩ := of_checked_eq_accept h
    cases hk
    obtain ⟨hholder, -⟩ := of_holderChecks (rest := []) (by simpa using hchecks)
    exact .release l e hholder
  | stage l e c ps =>
    obtain ⟨hchecks, hk⟩ := of_checked_eq_accept h
    cases hk
    obtain ⟨hholder, hrest⟩ := of_holderChecks hchecks
    simp only [State.slotChecks, List.forall_mem_cons, Bool.not_eq_false'] at hrest
    obtain ⟨hin, hpending, -⟩ := hrest
    exact .stage l e c ps hholder hin hpending
  | discard l e c =>
    obtain ⟨hchecks, hk⟩ := of_checked_eq_accept h
    cases hk
    obtain ⟨hholder, hrest⟩ := of_holderChecks hchecks
    simp only [State.slotChecks, List.forall_mem_cons, Bool.not_eq_false'] at hrest
    obtain ⟨hin, hpending, -⟩ := hrest
    exact .discard l e c hholder hin hpending
  | commit l e =>
    obtain ⟨hchecks, hk⟩ := of_checked_eq_accept h
    cases hk
    obtain ⟨hholder, hrest⟩ := of_holderChecks hchecks
    simp only [List.forall_mem_cons, beq_eq_false_iff_ne] at hrest
    obtain ⟨-, hstaged, hhalted, -⟩ := hrest
    exact .commit l e hholder hstaged hhalted
  | resume l e =>
    obtain ⟨hchecks, hk⟩ := of_checked_eq_accept h
    cases hk
    obtain ⟨hholder, hrest⟩ := of_holderChecks hchecks
    simp only [List.forall_mem_cons, List.any_eq_false, mem_channelIds, true_implies] at hrest
    obtain ⟨hpending, hhalted, -⟩ := hrest
    exact .resume l e hholder hpending fun c hin hres => by simpa [hin, hres, -Fin.getElem_fin] using hhalted c
  | park l e set =>
    obtain ⟨hchecks, hk⟩ := of_checked_eq_accept h
    cases hk
    obtain ⟨hholder, hrest⟩ := of_holderChecks hchecks
    simp only [List.forall_mem_cons, bne_eq_false_iff_eq] at hrest
    obtain ⟨hin, -⟩ := hrest
    exact .park l e set hholder (subset_of_and_not_eq_zero hin)
  | readNotices => cases h; exact .readNotices
  | queryLease l => cases h; exact .queryLease l
  | queryChannel c => cases h; exact .queryChannel c
  | queryDevice => cases h; exact .queryDevice

/-! ### Commands -/

/-- What a command that completes can have done. -/
inductive Effect (s : State) : Instr → State → Prop where
  | idle (i : Instr) : Effect s i s
  | deviceReset (pins : Pins) : Effect s (.deviceReset pins) { State.afterReset pins with pending := s.pending }
  | tick : Effect s .tick ({ s with now := s.now + 1 }.raise (s.expiriesAt (s.now + 1)))
  | termExpiry (l : LeaseId) (hdue : .expiry l .term ∈ s.due) :
      Effect s (.termExpiry l.val) ((s.dropDue (.expiry l .term)).termExpired l)
  | graceExpiry (l : LeaseId) (hdue : .expiry l .grace ∈ s.due) :
      Effect s (.graceExpiry l.val) ((s.dropDue (.expiry l .grace)).lapse l .expired)
  | periodEnd (c : ChannelId) : Effect s (.periodEnd c.val) (s.periodEnded c)
  | holdEnded (c : ChannelId) (n : Nat) (hdue : .periodEnd c n ∈ s.due) (hhold : s.channels[c].underHold n = false) :
      Effect s (.periodEndTake c.val) (s.dropDue (.periodEnd c n))
  | boundary (c : ChannelId) (n : Nat) (hdue : .periodEnd c n ∈ s.due) (hhold : s.channels[c].underHold n = true) :
      Effect s (.periodEndTake c.val) ((s.dropDue (.periodEnd c n)).boundaryTaken c)
  | haltChange (line : HaltLine) (asserted : Bool) :
      Effect s (.haltChange line asserted) ({ s with haltSampled := s.haltSampled.put line asserted }.raiseHaltChange line)
  | haltAssertion (line : HaltLine) (hdue : .haltChange line true ∈ s.due) :
      Effect s (.haltAssertion line) ((s.dropDue (.haltChange line true)).haltAsserted line)
  | haltRelease (line : HaltLine) (hdue : .haltChange line false ∈ s.due) :
      Effect s (.haltRelease line) ((s.dropDue (.haltChange line false)).haltReleased line)
  | fall (p : Port) (hpresent : s.ports[p].presence = .present) :
      Effect s (.presentFall p.val) ((s.modPort p PortRecord.left).raise [.departure p])
  | departure (p : Port) (hdue : .departure p ∈ s.due) :
      Effect s (.departure p.val) (((s.dropDue (.departure p)).eachLease fun l u => u.departLease p l).departPort p)
  | port (i : Instr) (p : Port) (f : PortRecord → PortRecord) : Effect s i (s.modPort p f)
  | count (c : ChannelId) : Effect s (.count c.val) (s.counted c)
  | refused (i : Instr) (p : Port) (st : Status) (tag : Byte) : Effect s i (s.respond p st tag [])
  | accepted (p : Port) (r : Request) (q : HostRequest) (u : State) (st : Status) (body : List Byte)
      (hnext : s.nextRequest = some (p, r)) (hrange : q.inRange = true) (haccepted : Accepted s p q u) :
      Effect s q.code.command (u.respond p st r.tag body)

/-- A due period end is the one the take takes. -/
theorem State.mem_due_of_duePeriodEnd {s : State} {c : ChannelId} {n : Nat} (h : s.duePeriodEnd c = some n) :
    .periodEnd c n ∈ s.due := by
  unfold State.duePeriodEnd at h
  obtain ⟨e, he, hn⟩ := List.exists_of_findSome?_eq_some h
  split at hn
  · obtain ⟨rfl, rfl⟩ : _ = c ∧ _ = n := by simpa using hn
    exact he
  · cases hn

/-- The take of a request of a code takes nothing, refuses, or answers an accepted request. -/
theorem effect_of_command {s t : State} {k : ReqCode} (h : exec k.command s = .next t) : Effect s k.command t := by
  by_cases hnext : ∃ (p : Port) (r : Request), s.nextRequest = some (p, r) ∧ r.code = k.byte
  · obtain ⟨p, r, hn, hc⟩ := hnext
    cases hd : decodeBody k r.body with
    | none =>
      cases (exec_command_of_undecodable hn hc hd).symm.trans h
      exact .refused _ p _ _
    | some q =>
      cases (exec_command_of_decoded hn hc hd).symm.trans h
      cases decodeBody_code hd
      obtain ⟨-, hrange⟩ := layout_decodeBody hd
      cases hj : s.judge p q with
      | refuse st => exact .refused _ p st _
      | accept st body u => exact .accepted p r q u st body hn hrange (State.accepted_of_judge hj)
  · have hnone (judge : Port → HostRequest → Judgement) : s.takeRequest k judge = s := by
      obtain ⟨p, r, -, hn, hc, -⟩ | ⟨p, r, hn, hc, -⟩ | ⟨-, ht⟩ := s.takeRequest_cases k judge
      · exact absurd ⟨p, r, hn, hc⟩ hnext
      · exact absurd ⟨p, r, hn, hc⟩ hnext
      · exact ht
    obtain rfl : s = t := by
      cases k <;> exact Host.Outcome.next.inj ((congrArg Host.Outcome.next (hnone _)).symm.trans h)
    exact .idle _

theorem effect_of_takeEvent {s t : State} {e : Event} {k : State → State} {i : Instr} (ht : t = s.takeEvent e k)
    (hdue : e ∈ s.due → Effect s i (k (s.dropDue e))) : Effect s i t := by
  obtain ⟨hmem, heq⟩ | ⟨-, heq⟩ := s.takeEvent_cases e k
  · rw [ht, heq]; exact hdue hmem
  · rw [ht, heq]; exact .idle i

theorem effect_of_periodEndTake {s t : State} {n : Nat} (h : exec (.periodEndTake n) s = .next t) :
    Effect s (.periodEndTake n) t := by
  rw [exec, execPeriodEndTake] at h
  obtain ⟨c, rfl, rfl⟩ := onChannel_eq_next h
  cases hd : s.duePeriodEnd c with
  | none => exact .idle _
  | some m =>
    have hmem := State.mem_due_of_duePeriodEnd hd
    dsimp only
    rw [State.dropDue_channels]
    cases hu : s.channels[c].underHold m with
    | false => exact .holdEnded c m hmem hu
    | true => exact .boundary c m hmem hu

theorem effect_of_presentFall {s t : State} {n : Nat} (h : exec (.presentFall n) s = .next t) :
    Effect s (.presentFall n) t := by
  rw [exec, execPresentFall] at h
  obtain ⟨p, rfl, rfl⟩ := onPort_eq_next h
  cases hp : s.ports[p].presence with
  | present => exact .fall p hp
  | leaving => exact .port _ p _
  | absent => exact .port _ p _

theorem effect_of_unknownRequest {s t : State} (h : exec .unknownRequest s = .next t) : Effect s .unknownRequest t := by
  cases Host.Outcome.next.inj h
  cases s.nextRequest with
  | none => exact .idle _
  | some x =>
    dsimp only
    split_ifs
    · exact .refused _ _ _ _
    · exact .idle _

/-- A command that completes has one of the effects. -/
theorem effect_of_exec {s t : State} {i : Instr} (h : exec i s = .next t) : Effect s i t := by
  cases i with
  | deviceReset pins => cases Host.Outcome.next.inj h; exact .deviceReset pins
  | tick => cases Host.Outcome.next.inj h; exact .tick
  | termExpiry n =>
    rw [exec, execTermExpiry] at h
    obtain ⟨l, rfl, ht⟩ := onLease_eq_next h
    exact effect_of_takeEvent ht (.termExpiry l)
  | graceExpiry n =>
    rw [exec, execGraceExpiry] at h
    obtain ⟨l, rfl, ht⟩ := onLease_eq_next h
    exact effect_of_takeEvent ht (.graceExpiry l)
  | periodEnd n =>
    obtain ⟨c, rfl, rfl⟩ := onChannel_eq_next h
    exact .periodEnd c
  | periodEndTake n => exact effect_of_periodEndTake h
  | haltChange line a => cases Host.Outcome.next.inj h; exact .haltChange line a
  | haltAssertion line => exact effect_of_takeEvent (Host.Outcome.next.inj h).symm (.haltAssertion line)
  | haltRelease line => exact effect_of_takeEvent (Host.Outcome.next.inj h).symm (.haltRelease line)
  | presentFall n => exact effect_of_presentFall h
  | departure n =>
    rw [exec, execDeparture] at h
    obtain ⟨p, rfl, ht⟩ := onPort_eq_next h
    exact effect_of_takeEvent ht (.departure p)
  | portReturn n =>
    rw [exec, execPortReturn] at h
    obtain ⟨p, rfl, rfl⟩ := onPort_eq_next h
    exact .port _ p _
  | csFall n =>
    rw [exec, execCsFall] at h
    obtain ⟨p, rfl, rfl⟩ := onPort_eq_next h
    exact .port _ p _
  | csRise n mosi =>
    rw [exec, execCsRise] at h
    obtain ⟨p, rfl, rfl⟩ := onPort_eq_next h
    exact .port _ p _
  | count n =>
    obtain ⟨c, rfl, rfl⟩ := onChannel_eq_next h
    exact .count c
  | unknownRequest => exact effect_of_unknownRequest h
  | define => exact effect_of_command (k := .define) h
  | undefine => exact effect_of_command (k := .undefine) h
  | configureChannel => exact effect_of_command (k := .configureChannel) h
  | revoke => exact effect_of_command (k := .revoke) h
  | resetLeases => exact effect_of_command (k := .resetLeases) h
  | acquire => exact effect_of_command (k := .acquire) h
  | withdraw => exact effect_of_command (k := .withdraw) h
  | renew => exact effect_of_command (k := .renew) h
  | transfer => exact effect_of_command (k := .transfer) h
  | release => exact effect_of_command (k := .release) h
  | stage => exact effect_of_command (k := .stage) h
  | discard => exact effect_of_command (k := .discard) h
  | commit => exact effect_of_command (k := .commit) h
  | resume => exact effect_of_command (k := .resume) h
  | park => exact effect_of_command (k := .park) h
  | readNotices => exact effect_of_command (k := .readNotices) h
  | queryLease => exact effect_of_command (k := .queryLease) h
  | queryChannel => exact effect_of_command (k := .queryChannel) h
  | queryDevice => exact effect_of_command (k := .queryDevice) h

end Sys2Proof.Machine
end

section
/-! SUPPORT. What a command leaves alone: walks over the leases, operations local to one lease, the epochs and the waiting commands. -/

namespace Sys2Proof.Machine

/-! ### Walks -/

theorem foldl_observe {α β σ : Type} (g : σ → β) (f : α → σ → σ) (P : σ → Prop) (hP : ∀ x t, P t → P (f x t)) (a : α)
    (hother : ∀ x t, x ≠ a → P t → g (f x t) = g t) {xs : List α} (hmem : a ∈ xs) (hnodup : xs.Nodup) {s : σ} (hs : P s) :
    ∃ t, P t ∧ g t = g s ∧ g (xs.foldl (fun t x => f x t) s) = g (f a t) := by
  have hkeep (ys : List α) (hys : a ∉ ys) : ∀ t, P t → g (ys.foldl (fun t x => f x t) t) = g t := by
    induction ys with
    | nil => exact fun _ _ => rfl
    | cons y rest ih =>
      intro t ht
      obtain ⟨hy, hrest⟩ := not_or.mp (mt List.mem_cons.mpr hys)
      rw [List.foldl_cons, ih hrest _ (hP y t ht), hother y t (Ne.symm hy) ht]
  induction xs generalizing s with
  | nil => cases hmem
  | cons x rest ih =>
    obtain ⟨hx, hrest⟩ := List.nodup_cons.mp hnodup
    by_cases hxa : x = a
    · subst hxa
      exact ⟨s, hs, rfl, hkeep rest hx _ (hP x s hs)⟩
    · obtain ⟨t, ht, hgt, hg⟩ := ih (List.mem_of_ne_of_mem (Ne.symm hxa) hmem) hrest (hP x s hs)
      exact ⟨t, ht, hgt.trans (hother x s hxa hs), hg⟩

/-- What a walk shows of one lease, where the other steps do not touch what is shown, is what its own step shows, taken from a state
that shows what the walk began with. -/
theorem State.eachLease_observe {β : Type} (g : State → β) {f : LeaseId → State → State} (P : State → Prop)
    (hP : ∀ l t, P t → P (f l t)) (l : LeaseId) (hother : ∀ l' t, l' ≠ l → P t → g (f l' t) = g t) {s : State} (hs : P s) :
    ∃ t, P t ∧ g t = g s ∧ g (s.eachLease f) = g (f l t) :=
  foldl_observe g f P hP l hother (mem_leaseIds l) (by decide) hs

/-! ### Operations local to one lease -/

/-- The step from `s` to `t` is about the lease alone: other leases, their deadlines, channels, slots and notices are untouched, and so
is what belongs to no lease; the lease keeps its definition, and of the waiting events at most its own expiries are withdrawn. -/
structure LocalTo (l : LeaseId) (s t : State) : Prop where
  leases : ∀ l' : LeaseId, l' ≠ l → t.leases[l'] = s.leases[l']
  defn : t.leases[l].defn = s.leases[l].defn
  deadlines : ∀ l' : LeaseId, l' ≠ l → t.deadlines[l'] = s.deadlines[l']
  notices : ∀ (p : Port) (l' : LeaseId), l' ≠ l → t.notices[p][l'] = s.notices[p][l']
  channels : ∀ c : ChannelId, s.inLease l c = false → t.channels[c] = s.channels[c]
  slots : ∀ c : ChannelId, s.inLease l c = false → t.slots[c] = s.slots[c]
  events : t.events = s.events ∨ t.events = withoutEvents (fun e => e.isExpiryOf l) s.events
  now : t.now = s.now
  haltTaken : t.haltTaken = s.haltTaken
  haltSampled : t.haltSampled = s.haltSampled
  ports : t.ports = s.ports
  arbiter : t.arbiter = s.arbiter
  pending : t.pending = s.pending

theorem LocalTo.refl (l : LeaseId) (s : State) : LocalTo l s s := by
  constructor <;> simp

theorem LocalTo.inLease {l : LeaseId} {s t : State} (h : LocalTo l s t) (l' : LeaseId) (c : ChannelId) :
    t.inLease l' c = s.inLease l' c := by
  by_cases hl : l' = l
  · subst hl; exact State.inLease_congr h.defn c
  · exact State.inLease_congr (by rw [h.leases l' hl]) c

theorem LocalTo.trans {l : LeaseId} {s t u : State} (h : LocalTo l s t) (h' : LocalTo l t u) : LocalTo l s u where
  leases l' hl := (h'.leases l' hl).trans (h.leases l' hl)
  defn := h'.defn.trans h.defn
  deadlines l' hl := (h'.deadlines l' hl).trans (h.deadlines l' hl)
  notices p l' hl := (h'.notices p l' hl).trans (h.notices p l' hl)
  channels c hc := (h'.channels c ((h.inLease l c).trans hc)).trans (h.channels c hc)
  slots c hc := (h'.slots c ((h.inLease l c).trans hc)).trans (h.slots c hc)
  events := by
    obtain he | he := h.events <;> obtain he' | he' := h'.events
    · exact .inl (he'.trans he)
    · exact .inr (by rw [he', he])
    · exact .inr (he'.trans he)
    · exact .inr (by rw [he', he, withoutEvents_idem])
  now := h'.now.trans h.now
  haltTaken := h'.haltTaken.trans h.haltTaken
  haltSampled := h'.haltSampled.trans h.haltSampled
  ports := h'.ports.trans h.ports
  arbiter := h'.arbiter.trans h.arbiter
  pending := h'.pending.trans h.pending

theorem State.modLease_localTo (s : State) (l : LeaseId) (f : Lease → Lease) (hdefn : (f s.leases[l]).defn = s.leases[l].defn) :
    LocalTo l s (s.modLease l f) := by
  constructor <;> simp +contextual [getElem_set_fin, hdefn, -Fin.getElem_fin]

theorem State.setDeadline_localTo (s : State) (l : LeaseId) (d : Option Deadline) : LocalTo l s (s.setDeadline l d) := by
  constructor <;> simp +contextual [getElem_set_fin, -Fin.getElem_fin]

theorem State.purge_localTo (s : State) (l : LeaseId) : LocalTo l s (s.purge l) := by
  constructor <;> simp +contextual [getElem_ofFn_fin, -Fin.getElem_fin]

theorem State.post_localTo (s : State) (p : Port) (l : LeaseId) (k : Post) : LocalTo l s (s.post p l k) := by
  constructor
  case notices => exact fun p' l' hl => by rw [State.post_get, if_neg fun h => hl h.2]
  all_goals simp

theorem State.postHolder_localTo (s : State) (l : LeaseId) (k : Post) : LocalTo l s (s.postHolder l k) := by
  unfold State.postHolder
  split
  · exact s.post_localTo _ l k
  · exact .refl l s

theorem State.parkLease_localTo (s : State) (l : LeaseId) : LocalTo l s (s.parkLease l) := by
  constructor
  case channels => exact fun c hc => by rw [State.parkLease_get, hc]; rfl
  all_goals simp

theorem State.startStaged_localTo (s : State) (l : LeaseId) : LocalTo l s (s.startStaged l) := by
  constructor
  case channels => exact fun c hc => by rw [State.startStaged, State.mapChannels_get, hc]; rfl
  all_goals simp

theorem State.resumed_localTo (s : State) (l : LeaseId) : LocalTo l s (s.resumed l) := by
  constructor
  case channels => exact fun c hc => by rw [State.resumed, State.mapChannels_get, hc]; rfl
  all_goals simp [State.resumed]

theorem State.setSlot_localTo (s : State) {l : LeaseId} {c : ChannelId} (hin : s.inLease l c = true) (x : Option StagedSet) :
    LocalTo l s (s.setSlot c x) := by
  constructor
  case slots =>
    intro c' hc'
    rw [State.setSlot_get, if_neg]
    rintro rfl
    exact Bool.noConfusion (hin.symm.trans hc')
  all_goals simp

@[simp] theorem State.parkSet_leases (s : State) (set : ChannelSet) : (s.parkSet set).leases = s.leases := by
  simp only [State.parkSet, State.mapChannels_leases]

theorem State.parkSet_localTo (s : State) {l : LeaseId} {set : ChannelSet}
    (hin : ∀ c : ChannelId, set.getLsbD c.val = true → s.inLease l c = true) : LocalTo l s (s.parkSet set) := by
  constructor
  case channels =>
    intro c hc
    rw [State.parkSet, State.mapChannels_get, if_neg]
    exact fun h => Bool.noConfusion ((hin c h).symm.trans hc)
  all_goals simp [State.parkSet]

theorem State.modChannel_localTo (s : State) {l : LeaseId} {c : ChannelId} (hin : s.inLease l c = true)
    (f : Channel → Channel) : LocalTo l s (s.modChannel c f) := by
  constructor
  case channels =>
    intro c' hc'
    rw [State.modChannel_get, if_neg]
    rintro rfl
    exact Bool.noConfusion (hin.symm.trans hc')
  all_goals simp

theorem State.grant_localTo (s : State) (l : LeaseId) (p : Port) (term : Word16) : LocalTo l s (s.grant l p term) :=
  ((s.modLease_localTo l _ rfl).trans (State.setDeadline_localTo ..)).trans ((State.purge_localTo ..).trans (State.post_localTo ..))

theorem State.lapseStart_localTo (s : State) (l : LeaseId) (reason : LapseReason) : LocalTo l s (s.lapseStart l reason) := by
  have hbegun : LocalTo l s (Claims.lapseBegun s l reason) := by
    constructor
    case channels => exact fun c hc => by simp [Claims.lapseBegun, Claims.rewritten, Claims.mapLease, hc]
    case slots =>
      intro c hc
      have hin : (Claims.mapLease s l fun ch => ch.lapsed (reason == .revoked)).inLease l c = false := hc
      rw [Claims.lapseBegun, Claims.rewritten, Claims.purgedSlots, getElem_ofFn_fin, hin]
      rfl
    case events => exact .inr rfl
    all_goals
      simp +contextual [Claims.lapseBegun, Claims.rewritten, Claims.mapLease, Claims.lapsingRecord, getElem_set_fin,
        -Fin.getElem_fin]
  rw [Claims.lapseStart_eq]
  split
  · exact hbegun.trans (State.postHolder_localTo ..)
  · exact hbegun

theorem State.lapseComplete_localTo (s : State) (l : LeaseId) : LocalTo l s (s.lapseComplete l) := by
  have hvacated : LocalTo l s ((s.purge l).modLease l fun r => r.vacated) :=
    (s.purge_localTo l).trans (State.modLease_localTo _ l _ rfl)
  obtain ⟨-, hc⟩ | ⟨w, rest, -, hc⟩ := s.lapseComplete_cases l
  · rw [hc]; exact hvacated.trans (State.setDeadline_localTo ..)
  · rw [hc]; exact hvacated.trans ((State.modLease_localTo _ l _ rfl).trans (State.grant_localTo ..))

theorem State.completeIfParked_localTo (s : State) (l : LeaseId) : LocalTo l s (s.completeIfParked l) := by
  obtain ⟨-, hc⟩ | ⟨-, -, hc⟩ := s.completeIfParked_cases l
  · rw [hc]; exact .refl l s
  · rw [hc]; exact s.lapseComplete_localTo l

theorem State.lapse_localTo (s : State) (l : LeaseId) (reason : LapseReason) : LocalTo l s (s.lapse l reason) :=
  (s.lapseStart_localTo l reason).trans (State.completeIfParked_localTo ..)

theorem State.executeCommit_localTo (s : State) (l : LeaseId) : LocalTo l s (s.executeCommit l) :=
  ((s.startStaged_localTo l).trans (State.purge_localTo ..)).trans
    ((State.modLease_localTo _ l _ rfl).trans (State.postHolder_localTo ..))

theorem State.renewed_localTo (s : State) (l : LeaseId) (newTerm : Word16) : LocalTo l s (s.renewed l newTerm) :=
  (s.modLease_localTo l _ rfl).trans (State.setDeadline_localTo ..)

theorem State.transferred_localTo (s : State) (l : LeaseId) (w : Waiter) : LocalTo l s (s.transferred l w) :=
  (s.modLease_localTo l _ rfl).trans (State.grant_localTo ..)

theorem State.committed_localTo (s : State) (l : LeaseId) : LocalTo l s (s.committed l) := by
  unfold State.committed
  split
  · exact s.modLease_localTo l _ rfl
  · exact s.executeCommit_localTo l

theorem State.parkListed_localTo (s : State) {l : LeaseId} {set : ChannelSet}
    (hin : ∀ c : ChannelId, set.getLsbD c.val = true → s.inLease l c = true) : LocalTo l s (s.parkListed l set) := by
  unfold State.parkListed
  split
  · exact (s.parkSet_localTo hin).trans (State.executeCommit_localTo ..)
  · exact s.parkSet_localTo hin

theorem State.revoked_localTo (s : State) (l : LeaseId) : LocalTo l s (s.revoked l) := by
  unfold State.revoked
  split
  · exact s.lapse_localTo l _
  · exact (s.parkLease_localTo l).trans (State.completeIfParked_localTo ..)

theorem State.enterGrace_localTo (s : State) (l : LeaseId) : LocalTo l s (s.enterGrace l) :=
  (s.modLease_localTo l _ rfl).trans ((State.setDeadline_localTo ..).trans (State.postHolder_localTo ..))

theorem State.termExpired_localTo (s : State) (l : LeaseId) : LocalTo l s (s.termExpired l) := by
  unfold State.termExpired
  split
  · exact s.lapse_localTo l _
  · exact s.enterGrace_localTo l

theorem State.departLease_localTo (s : State) (p : Port) (l : LeaseId) : LocalTo l s (s.departLease p l) := by
  have hqueue : LocalTo l s (s.modLease l fun r => { r with queue := r.queueWithout p }) := s.modLease_localTo l _ rfl
  unfold State.departLease
  dsimp only
  split
  · exact hqueue.trans (State.lapse_localTo ..)
  · exact hqueue

theorem State.cancelWaits_localTo (s : State) (l : LeaseId) (queue : List Waiter) : LocalTo l s (s.cancelWaits l queue) := by
  unfold State.cancelWaits
  induction queue generalizing s with
  | nil => exact .refl l s
  | cons w rest ih => exact (s.post_localTo w.port l _).trans (ih _)

theorem State.resetLease_localTo (s : State) (l : LeaseId) : LocalTo l s (s.resetLease l) := by
  unfold State.resetLease
  split
  · exact .refl l s
  · refine LocalTo.trans ?_ (State.modLease_localTo _ l _ rfl)
    refine LocalTo.trans ?_ (State.setDeadline_localTo ..)
    refine LocalTo.trans ?_ (State.cancelWaits_localTo ..)
    have hpurged : LocalTo l s ((s.parkLease l).purge l) := (s.parkLease_localTo l).trans (State.purge_localTo ..)
    split
    · exact hpurged.trans (State.postHolder_localTo ..)
    · exact hpurged

/-! ### Halts: only the channels, then lease by lease -/

@[simp] theorem State.haltChannels_leases (s : State) (line : HaltLine) : (s.haltChannels line).leases = s.leases := by
  simp only [State.haltChannels, State.mapChannels_leases]

@[simp] theorem State.haltChannels_pending (s : State) (line : HaltLine) : (s.haltChannels line).pending = s.pending := by
  simp only [State.haltChannels, State.mapChannels_pending]

@[simp] theorem State.releaseChannels_leases (s : State) : s.releaseChannels.leases = s.leases := by
  simp only [State.releaseChannels, State.mapChannels_leases]

@[simp] theorem State.releaseChannels_pending (s : State) : s.releaseChannels.pending = s.pending := by
  simp only [State.releaseChannels, State.mapChannels_pending]

theorem State.raiseHaltChange_eq (s : State) (line : HaltLine) :
    s.raiseHaltChange line =
      { s with events :=
          if s.haltSampled.get line != s.haltTaken.get line && !s.waitingEvent (fun e => e.isChangeOf line) then
            s.events ++ [[.haltChange line (s.haltSampled.get line)]]
          else s.events } := by
  unfold State.raiseHaltChange
  split
  · rw [State.raise_eq]; rfl
  · rfl

/-- One step of the walk that completes lapses at an assertion (R115). -/
def haltCompleteStep (before : State) (line : HaltLine) (l : LeaseId) (t : State) : State :=
  if before.anyInLease l fun c => before.channels[c].newlyHalted line && before.channels[c].state == .parking
  then t.completeIfParked l else t

/-- One step of the walk that tells the holders at an assertion (R116). -/
def haltNoticeStep (before : State) (line : HaltLine) (l : LeaseId) (t : State) : State :=
  if before.leases[l].live && before.anyInLease l (fun c => before.channels[c].newlyHalted line) then
    if before.leases[l].commitPending then
      ((t.modLease l fun r => { r with commitPending := false }).postHolder l .commitCancelled).postHolder l .halted
    else t.postHolder l .halted
  else t

/-- One step of the walk that tells the holders at a release (R118). -/
def releaseNoticeStep (before : State) (l : LeaseId) (t : State) : State :=
  if t.leases[l].live && before.anyInLease l (fun c => before.channels[c].newlyReleased before.haltTaken) && !t.anyHalted l
  then t.postHolder l .haltCleared else t

/-- The state with one line's level taken (R113). -/
def State.lineTaken (s : State) (line : HaltLine) (asserted : Bool) : State :=
  { s with haltTaken := s.haltTaken.put line asserted }

/-- The take of an assertion: the channels, then the two walks, then the comparison (R113 to R116). -/
theorem State.haltAsserted_eq (s : State) (line : HaltLine) :
    s.haltAsserted line =
      ((((s.lineTaken line true).haltChannels line).eachLease (haltCompleteStep (s.lineTaken line true) line)).eachLease
        (haltNoticeStep (s.lineTaken line true) line)).raiseHaltChange line := rfl

/-- The take of a release: the channels, then the walk, then the comparison (R113, R117, R118). -/
theorem State.haltReleased_eq (s : State) (line : HaltLine) :
    s.haltReleased line =
      ((s.lineTaken line false).releaseChannels.eachLease (releaseNoticeStep (s.lineTaken line false))).raiseHaltChange
        line := rfl

theorem haltCompleteStep_localTo (before : State) (line : HaltLine) (l : LeaseId) (t : State) :
    LocalTo l t (haltCompleteStep before line l t) := by
  unfold haltCompleteStep
  split
  · exact t.completeIfParked_localTo l
  · exact .refl l t

theorem haltNoticeStep_localTo (before : State) (line : HaltLine) (l : LeaseId) (t : State) :
    LocalTo l t (haltNoticeStep before line l t) := by
  unfold haltNoticeStep
  split
  · split
    · exact ((t.modLease_localTo l _ rfl).trans (State.postHolder_localTo ..)).trans (State.postHolder_localTo ..)
    · exact t.postHolder_localTo l _
  · exact .refl l t

theorem haltNoticeStep_leases (before : State) (line : HaltLine) (l : LeaseId) (t : State) :
    (haltNoticeStep before line l t).leases =
      if (before.leases[l].live && before.anyInLease l (fun c => before.channels[c].newlyHalted line)) = true ∧
          before.leases[l].commitPending = true
      then t.leases.set l.val { t.leases[l] with commitPending := false } else t.leases := by
  unfold haltNoticeStep
  by_cases hnew : (before.leases[l].live && before.anyInLease l (fun c => before.channels[c].newlyHalted line)) = true
  · by_cases hpending : before.leases[l].commitPending = true
    · rw [if_pos hnew, if_pos hpending, if_pos ⟨hnew, hpending⟩, State.postHolder_leases, State.postHolder_leases]
      rfl
    · rw [if_pos hnew, if_neg hpending, if_neg fun h => hpending h.2, State.postHolder_leases]
  · rw [if_neg hnew, if_neg fun h => hnew h.1]

theorem releaseNoticeStep_localTo (before : State) (l : LeaseId) (t : State) :
    LocalTo l t (releaseNoticeStep before l t) := by
  unfold releaseNoticeStep
  split
  · exact t.postHolder_localTo l _
  · exact .refl l t

/-! ### The waiting commands -/

theorem State.eachLease_pending {f : LeaseId → State → State} (h : ∀ l t, LocalTo l t (f l t)) (s : State) :
    (s.eachLease f).pending = s.pending :=
  State.eachLease_induct (P := fun t => t.pending = s.pending) s rfl fun l t ht => (h l t).pending.trans ht

theorem State.postChannelHolder_leases (s : State) (c : ChannelId) (k : Post) :
    (s.postChannelHolder c k).leases = s.leases := by
  unfold State.postChannelHolder
  split <;> simp

theorem State.postChannelHolder_pending (s : State) (c : ChannelId) (k : Post) :
    (s.postChannelHolder c k).pending = s.pending := by
  unfold State.postChannelHolder
  split <;> simp

theorem State.boundaryPassed_leases (s : State) (c : ChannelId) : (s.boundaryPassed c).leases = s.leases := by
  unfold State.boundaryPassed
  repeat' split
  all_goals simp [State.postChannelHolder_leases]

theorem State.boundaryPassed_pending (s : State) (c : ChannelId) : (s.boundaryPassed c).pending = s.pending := by
  unfold State.boundaryPassed
  repeat' split
  all_goals simp [State.postChannelHolder_pending]

theorem State.boundaryTaken_pending (s : State) (c : ChannelId) : (s.boundaryTaken c).pending = s.pending := by
  unfold State.boundaryTaken State.completeForChannel State.boundaryCommit
  repeat' split
  all_goals simp [State.boundaryPassed_pending]

theorem State.counted_pending (s : State) (c : ChannelId) : (s.counted c).pending = s.pending := by
  unfold State.counted
  repeat' split
  all_goals simp

theorem State.periodEnded_pending (s : State) (c : ChannelId) : (s.periodEnded c).pending = s.pending := by
  unfold State.periodEnded
  repeat' split
  all_goals simp

theorem State.haltAsserted_pending (s : State) (line : HaltLine) : (s.haltAsserted line).pending = s.pending := by
  rw [State.haltAsserted_eq, State.raiseHaltChange_eq]
  dsimp only
  rw [State.eachLease_pending (haltNoticeStep_localTo _ line), State.eachLease_pending (haltCompleteStep_localTo _ line),
    State.haltChannels_pending]
  rfl

theorem State.haltReleased_pending (s : State) (line : HaltLine) : (s.haltReleased line).pending = s.pending := by
  rw [State.haltReleased_eq, State.raiseHaltChange_eq]
  dsimp only
  rw [State.eachLease_pending (releaseNoticeStep_localTo _), State.releaseChannels_pending]
  rfl

theorem Accepted.pending {s u : State} {p : Port} {q : HostRequest} (h : Accepted s p q u) : u.pending = s.pending := by
  cases h with
  | define l d => simp [State.defined, State.tieChannels]
  | undefine l => simp [State.undefined, State.tieChannels]
  | configureChannel => rfl
  | revoke l => exact (s.revoked_localTo l).pending
  | resetLeases => exact State.eachLease_pending (fun l t => t.resetLease_localTo l) s
  | acquire l => exact (s.grant_localTo l _ _).pending
  | queue | withdraw | stage | discard | readNotices | queryLease | queryChannel | queryDevice => rfl
  | renew l => exact (s.renewed_localTo l _).pending
  | transfer l e target w => exact (s.transferred_localTo l w).pending
  | release l => exact (s.lapse_localTo l _).pending
  | commit l => exact (s.committed_localTo l).pending
  | resume l => exact (s.resumed_localTo l).pending
  | park l e set _ hin => exact (s.parkListed_localTo hin).pending

theorem Effect.pending {s t : State} {i : Instr} (h : Effect s i t) : t.pending = s.pending := by
  cases h with
  | idle | deviceReset | port => rfl
  | tick => rw [State.raise_pending]
  | termExpiry l => rw [(State.termExpired_localTo _ l).pending, State.dropDue_pending]
  | graceExpiry l => rw [State.lapse_pending, State.dropDue_pending]
  | periodEnd c => exact s.periodEnded_pending c
  | holdEnded => rw [State.dropDue_pending]
  | boundary c => rw [State.boundaryTaken_pending, State.dropDue_pending]
  | haltChange => rw [State.raiseHaltChange_eq]
  | haltAssertion => rw [State.haltAsserted_pending, State.dropDue_pending]
  | haltRelease => rw [State.haltReleased_pending, State.dropDue_pending]
  | fall => rw [State.raise_pending, State.modPort_pending]
  | departure p =>
    rw [State.departPort, State.modPort_pending, State.setNotices_pending,
      State.eachLease_pending fun l t => t.departLease_localTo p l, State.dropDue_pending]
  | count c => exact s.counted_pending c
  | refused => rw [State.respond_pending]
  | accepted p r q u st body hnext hrange haccepted => rw [State.respond_pending, haccepted.pending]

/-! ### Epochs -/

/-- The lease's epoch stays or moves to its successor (R14). -/
def EpochMoves (l : LeaseId) (s t : State) : Prop :=
  t.leases[l].epoch = s.leases[l].epoch ∨ t.leases[l].epoch = nextEpoch s.leases[l].epoch

theorem EpochMoves.of_eq {l : LeaseId} {s t : State} (h : t.leases[l].epoch = s.leases[l].epoch) : EpochMoves l s t := .inl h

/-- An epoch's successor is never 0 (R14). -/
theorem nextEpoch_ne_zero (e : Word16) : nextEpoch e ≠ 0 := by
  unfold nextEpoch
  split
  · decide
  · bv_omega

theorem EpochMoves.ne_zero {l : LeaseId} {s t : State} (h : EpochMoves l s t) (hs : s.leases[l].epoch ≠ 0) :
    t.leases[l].epoch ≠ 0 := by
  obtain h | h := h
  · rwa [h]
  · rw [h]; exact nextEpoch_ne_zero _

/-- An operation local to one lease moves no other lease's epoch. -/
theorem LocalTo.epochMoves {l : LeaseId} {s t : State} (h : LocalTo l s t) (hl : EpochMoves l s t) (l' : LeaseId) :
    EpochMoves l' s t := by
  by_cases heq : l' = l
  · subst heq; exact hl
  · exact .of_eq (by rw [h.leases l' heq])

theorem State.modLease_epoch (s : State) (l : LeaseId) (f : Lease → Lease) (h : (f s.leases[l]).epoch = s.leases[l].epoch)
    (l' : LeaseId) : (s.modLease l f).leases[l'].epoch = s.leases[l'].epoch := by
  rw [State.modLease_get]
  split
  · next heq => rw [heq, h]
  · rfl

theorem State.grant_epochMoves (s : State) (l : LeaseId) (p : Port) (term : Word16) (l' : LeaseId) :
    EpochMoves l' s (s.grant l p term) :=
  (s.grant_localTo l p term).epochMoves (.inr (by rw [State.grant_leases, getElem_set_fin, if_pos rfl]; rfl)) l'

theorem State.completeIfParked_epochMoves (s : State) (l l' : LeaseId) : EpochMoves l' s (s.completeIfParked l) := by
  refine (s.completeIfParked_localTo l).epochMoves ?_ l'
  obtain ⟨-, hc⟩ | ⟨-, -, hc⟩ := s.completeIfParked_cases l
  · rw [hc]; exact .inl rfl
  · rw [hc]
    obtain ⟨-, hc⟩ | ⟨w, rest, -, hc⟩ := s.lapseComplete_cases l
    · rw [hc, Claims.purge_modLease_setDeadline]
      exact .inl (by rw [Claims.rewritten_lease]; rfl)
    · rw [hc]
      refine .inr ?_
      simp only [State.grant_leases, State.modLease_leases, State.purge_leases, getElem_set_fin, if_true]
      rfl

theorem State.lapseStart_epoch (s : State) (l : LeaseId) (reason : LapseReason) (l' : LeaseId) :
    (s.lapseStart l reason).leases[l'].epoch = s.leases[l'].epoch := by
  rw [State.lapseStart_leases, getElem_set_fin]
  split
  · next h => rw [h]; rfl
  · rfl

theorem State.lapse_epochMoves (s : State) (l : LeaseId) (reason : LapseReason) (l' : LeaseId) :
    EpochMoves l' s (s.lapse l reason) := by
  have h := (s.lapseStart l reason).completeIfParked_epochMoves l l'
  unfold EpochMoves at h
  rwa [State.lapseStart_epoch] at h

theorem State.executeCommit_epoch (s : State) (l l' : LeaseId) : (s.executeCommit l).leases[l'].epoch = s.leases[l'].epoch := by
  rw [State.executeCommit_leases, getElem_set_fin]
  split
  · next h => rw [h]
  · rfl

theorem State.termExpired_epochMoves (s : State) (l l' : LeaseId) : EpochMoves l' s (s.termExpired l) := by
  unfold State.termExpired
  split
  · exact s.lapse_epochMoves l _ l'
  · refine .of_eq ?_
    rw [State.enterGrace, State.postHolder_leases, State.setDeadline_leases]
    exact s.modLease_epoch l (fun r => { r with state := .grace }) rfl l'

theorem State.boundaryTaken_epochMoves (s : State) (c : ChannelId) (l : LeaseId) : EpochMoves l s (s.boundaryTaken c) := by
  unfold State.boundaryTaken
  split
  · unfold State.completeForChannel
    split
    · exact State.completeIfParked_epochMoves _ _ l
    · exact .inl rfl
  · split
    · unfold State.boundaryCommit
      split
      · exact .of_eq (s.executeCommit_epoch _ l)
      · exact .of_eq (by rw [State.boundaryPassed_leases]; exact s.executeCommit_epoch _ l)
    · exact .of_eq (by rw [State.boundaryPassed_leases])

theorem State.counted_leases (s : State) (c : ChannelId) : (s.counted c).leases = s.leases := by
  unfold State.counted
  repeat' split
  all_goals simp

theorem State.periodEnded_leases (s : State) (c : ChannelId) : (s.periodEnded c).leases = s.leases := by
  unfold State.periodEnded
  repeat' split
  all_goals simp

/-- A walk of steps each local to its lease moves an epoch as that lease's own step does. -/
theorem State.eachLease_epochMoves {f : LeaseId → State → State} (hlocal : ∀ l t, LocalTo l t (f l t))
    (hstep : ∀ l t, EpochMoves l t (f l t)) (s : State) (l : LeaseId) : EpochMoves l s (s.eachLease f) := by
  obtain ⟨t, -, hts, hend⟩ := State.eachLease_observe (fun t => t.leases[l].epoch) (fun _ => True) (fun _ _ _ => trivial) l
    (fun l' t hl _ => by rw [(hlocal l' t).leases l hl.symm]) (s := s) trivial
  have hmove := hstep l t
  unfold EpochMoves at *
  rwa [← hend, hts] at hmove

theorem haltCompleteStep_epochMoves (before : State) (line : HaltLine) (l : LeaseId) (t : State) :
    EpochMoves l t (haltCompleteStep before line l t) := by
  unfold haltCompleteStep
  split
  · exact t.completeIfParked_epochMoves l l
  · exact .inl rfl

theorem haltNoticeStep_epoch (before : State) (line : HaltLine) (l' : LeaseId) (t : State) (l : LeaseId) :
    (haltNoticeStep before line l' t).leases[l].epoch = t.leases[l].epoch := by
  rw [haltNoticeStep_leases]
  split
  · exact t.modLease_epoch l' (fun r => { r with commitPending := false }) rfl l
  · rfl

theorem State.haltAsserted_epochMoves (s : State) (line : HaltLine) (l : LeaseId) : EpochMoves l s (s.haltAsserted line) := by
  have hcomplete := State.eachLease_epochMoves (haltCompleteStep_localTo (s.lineTaken line true) line)
    (haltCompleteStep_epochMoves _ line) ((s.lineTaken line true).haltChannels line) l
  have htold (t : State) : (t.eachLease (haltNoticeStep (s.lineTaken line true) line)).leases[l].epoch = t.leases[l].epoch :=
    State.eachLease_induct (P := fun u => u.leases[l].epoch = t.leases[l].epoch) t rfl fun l' u hu =>
      (haltNoticeStep_epoch _ line l' u l).trans hu
  unfold EpochMoves at *
  rw [State.haltChannels_leases] at hcomplete
  rw [State.haltAsserted_eq, State.raiseHaltChange_eq]
  dsimp only
  rwa [htold]

theorem State.haltReleased_leases (s : State) (line : HaltLine) : (s.haltReleased line).leases = s.leases := by
  have hchannels : (s.lineTaken line false).releaseChannels.leases = s.leases := by rw [State.releaseChannels_leases]; rfl
  rw [State.haltReleased_eq, State.raiseHaltChange_eq]
  dsimp only
  refine State.eachLease_induct (P := fun t => t.leases = s.leases) (s.lineTaken line false).releaseChannels hchannels
    fun l t ht => ?_
  unfold releaseNoticeStep
  split
  · rw [State.postHolder_leases, ht]
  · exact ht

theorem State.departLease_epochMoves (s : State) (p : Port) (l : LeaseId) : EpochMoves l s (s.departLease p l) := by
  have hqueue : (s.modLease l fun r => { r with queue := r.queueWithout p }).leases[l].epoch = s.leases[l].epoch :=
    s.modLease_epoch l _ rfl l
  unfold State.departLease
  dsimp only
  split
  · have h := (s.modLease l fun r => { r with queue := r.queueWithout p }).lapse_epochMoves l .departed l
    unfold EpochMoves at h
    rwa [hqueue] at h
  · exact .inl hqueue

theorem State.cancelWaits_leases (s : State) (l : LeaseId) (queue : List Waiter) : (s.cancelWaits l queue).leases = s.leases := by
  unfold State.cancelWaits
  induction queue generalizing s with
  | nil => rfl
  | cons w rest ih => exact (ih _).trans (s.post_leases w.port l _)

theorem State.resetLease_epoch (s : State) (l : LeaseId) : (s.resetLease l).leases[l].epoch = s.leases[l].epoch := by
  unfold State.resetLease
  split
  · rfl
  · dsimp only
    rw [State.modLease_get, if_pos rfl, State.setDeadline_leases, State.cancelWaits_leases]
    split <;> simp

theorem Accepted.epochMoves {s u : State} {p : Port} {q : HostRequest} (h : Accepted s p q u) (l : LeaseId) :
    EpochMoves l s u := by
  cases h with
  | define l' d =>
    refine .of_eq ?_
    rw [State.defined, State.tieChannels, State.mapChannels_leases, State.setDeadline_leases]
    exact s.modLease_epoch l' _ rfl l
  | undefine l' =>
    refine .of_eq ?_
    rw [State.undefined, State.modLease_epoch _ l' _ rfl, State.tieChannels, State.mapChannels_leases]
  | configureChannel | stage | discard | readNotices | queryLease | queryChannel | queryDevice => exact .inl rfl
  | revoke l' =>
    unfold State.revoked
    split
    · exact s.lapse_epochMoves l' _ l
    · have h := (s.parkLease l').completeIfParked_epochMoves l' l
      unfold EpochMoves at h
      rwa [State.parkLease_leases] at h
  | resetLeases =>
    exact State.eachLease_epochMoves (fun l t => t.resetLease_localTo l) (fun l t => .of_eq (t.resetLease_epoch l)) s l
  | acquire l' term => exact s.grant_epochMoves l' p term l
  | queue l' | withdraw l' => exact .of_eq (s.modLease_epoch l' _ rfl l)
  | renew l' e newTerm =>
    exact (s.renewed_localTo l' newTerm).epochMoves (.of_eq (by
      rw [State.renewed, State.setDeadline_leases]; exact s.modLease_epoch l' _ rfl l')) l
  | transfer l' e target w =>
    have h := (s.modLease l' fun r => { r with queue := r.queueWithout w.port }).grant_epochMoves l' w.port w.term l
    unfold EpochMoves at h
    rwa [State.modLease_epoch s l' _ rfl l] at h
  | release l' => exact s.lapse_epochMoves l' _ l
  | commit l' =>
    unfold State.committed
    split
    · exact .of_eq (s.modLease_epoch l' _ rfl l)
    · exact .of_eq (s.executeCommit_epoch l' l)
  | resume l' => exact .of_eq (by rw [State.resumed, State.mapChannels_leases])
  | park l' e set =>
    refine .of_eq ?_
    unfold State.parkListed
    split
    · rw [State.executeCommit_epoch, State.parkSet_leases]
    · exact congrArg (·[l].epoch) (State.parkSet_leases ..)

theorem Effect.epochMoves {s t : State} {i : Instr} (hreset : ∀ pins : Pins, i ≠ .deviceReset pins) (h : Effect s i t)
    (l : LeaseId) : EpochMoves l s t := by
  cases h with
  | idle | port => exact .inl rfl
  | deviceReset pins => exact absurd rfl (hreset pins)
  | tick => exact .of_eq (by rw [State.raise_leases])
  | termExpiry l' =>
    have h := (s.dropDue (.expiry l' .term)).termExpired_epochMoves l' l
    unfold EpochMoves at h
    rwa [State.dropDue_leases] at h
  | graceExpiry l' =>
    have h := (s.dropDue (.expiry l' .grace)).lapse_epochMoves l' .expired l
    unfold EpochMoves at h
    rwa [State.dropDue_leases] at h
  | periodEnd c => exact .of_eq (by rw [State.periodEnded_leases])
  | holdEnded => exact .of_eq (by rw [State.dropDue_leases])
  | boundary c n =>
    have h := (s.dropDue (.periodEnd c n)).boundaryTaken_epochMoves c l
    unfold EpochMoves at h
    rwa [State.dropDue_leases] at h
  | haltChange => exact .of_eq (by rw [State.raiseHaltChange_eq])
  | haltAssertion line =>
    have h := (s.dropDue (.haltChange line true)).haltAsserted_epochMoves line l
    unfold EpochMoves at h
    rwa [State.dropDue_leases] at h
  | haltRelease => exact .of_eq (by rw [State.haltReleased_leases, State.dropDue_leases])
  | fall => exact .of_eq (by rw [State.raise_leases, State.modPort_leases])
  | departure p =>
    have h := State.eachLease_epochMoves (fun l t => t.departLease_localTo p l) (fun l t => t.departLease_epochMoves p l)
      (s.dropDue (.departure p)) l
    unfold EpochMoves at *
    rw [State.dropDue_leases] at h
    rwa [State.departPort, State.modPort_leases, State.setNotices_leases]
  | count c => exact .of_eq (by rw [State.counted_leases])
  | refused => exact .of_eq (by rw [State.respond_leases])
  | accepted p r q u st body hnext hrange haccepted =>
    have h := haccepted.epochMoves l
    unfold EpochMoves at *
    rwa [State.respond_leases]

end Sys2Proof.Machine

namespace Sys2Proof.Claims

open Sys2Proof.Machine

/-- Settles O59: every effect but a device reset's moves an epoch at most once, by one grant. -/
theorem epochsOnlyAdvance : Obligations.EpochsOnlyAdvance := by
  intro i s t l hreset hexec
  have h := (effect_of_exec hexec).epochMoves hreset l
  exact ⟨h, h.ne_zero⟩

/-! ### Completion and faults -/

theorem onLease_of_lt {n : Nat} (h : n < 16) (k : LeaseId → State) : ∃ t : State, onLease n k = .next t := ⟨_, dif_pos h⟩

theorem onChannel_of_lt {n : Nat} (h : n < 16) (k : ChannelId → State) : ∃ t : State, onChannel n k = .next t :=
  ⟨_, dif_pos h⟩

theorem onPort_of_lt {n : Nat} (h : n < 4) (k : Port → State) : ∃ t : State, onPort n k = .next t := ⟨_, dif_pos h⟩

theorem exec_completes {i : Instr} (s : State) (h : i.wellFormed = true) : ∃ t : State, exec i s = .next t := by
  cases i
  case termExpiry n | graceExpiry n =>
    simp only [exec, execTermExpiry, execGraceExpiry]
    exact onLease_of_lt (of_decide_eq_true h) _
  case periodEnd n | periodEndTake n | count n =>
    simp only [exec, execPeriodEnd, execPeriodEndTake, execCount]
    exact onChannel_of_lt (of_decide_eq_true h) _
  case presentFall n | departure n | portReturn n | csFall n | csRise n mosi =>
    simp only [exec, execPresentFall, execDeparture, execPortReturn, execCsFall, execCsRise]
    exact onPort_of_lt (of_decide_eq_true h) _
  all_goals exact ⟨_, rfl⟩

/-- Settles O2: a number in range completes, the effect leaves the queue, and a number out of range is no unit. -/
theorem wellFormedCommandsCompleteOthersFault : Obligations.WellFormedCommandsCompleteOthersFault := by
  refine ⟨?completes, ?units, ?ports⟩
  case completes =>
    intro i s hformed
    obtain ⟨t, ht⟩ := exec_completes s hformed
    exact ⟨t, ht, (effect_of_exec ht).pending⟩
  case units =>
    intro n s hn
    have hlease (k : LeaseId → State) : onLease n k = .fault .noSuchLease := dif_neg (Nat.not_lt.mpr hn)
    have hchannel (k : ChannelId → State) : onChannel n k = .fault .noSuchChannel := dif_neg (Nat.not_lt.mpr hn)
    simp only [exec, execTermExpiry, execGraceExpiry, execPeriodEnd, execPeriodEndTake, execCount]
    exact ⟨hlease _, hlease _, hchannel _, hchannel _, hchannel _⟩
  case ports =>
    intro n s mosi hn
    have hport (k : Port → State) : onPort n k = .fault .noSuchPort := dif_neg (Nat.not_lt.mpr hn)
    simp only [exec, execPresentFall, execDeparture, execPortReturn, execCsFall, execCsRise]
    exact ⟨hport _, hport _, hport _, hport _, hport _⟩

end Sys2Proof.Claims
end

section
/-! SUPPORT. A lapse as one equation, and the records that grants, lapses and completions write. -/

namespace Sys2Proof.Claims

open Sys2Proof.Machine

/-! ### Where the notice of a lapse stands -/

theorem mapLease_get (s : State) (l : LeaseId) (f : Channel → Channel) (c : ChannelId) :
    (mapLease s l f).channels[c] = if s.inLease l c then f s.channels[c] else s.channels[c] := getElem_ofFn_fin ..

theorem mapLease_localTo (s : State) (l : LeaseId) (f : Channel → Channel) : LocalTo l s (mapLease s l f) := by
  constructor
  case channels => exact fun c hc => by rw [mapLease_get, hc]; rfl
  case events => exact .inl rfl
  all_goals simp [mapLease]

theorem rewritten_localTo (s : State) (l : LeaseId) {r : Lease} (hdefn : r.defn = s.leases[l].defn) (d : Option Deadline) :
    LocalTo l s (rewritten s l r d) := by
  constructor
  case slots => exact fun c hc => by rw [rewritten, purgedSlots, getElem_ofFn_fin, hc]; rfl
  case events => exact .inr rfl
  all_goals simp +contextual [rewritten, getElem_set_fin, hdefn, -Fin.getElem_fin]

/-- The channels of a lease under a lapse start, and its holder told for the reasons that post (R56, R57). -/
def lapseTold (s : State) (l : LeaseId) (reason : LapseReason) : State :=
  let t := mapLease s l fun ch => ch.lapsed (reason == .revoked)
  if reason.posts then t.postHolder l (.lapsed reason) else t

theorem lapseTold_leases (s : State) (l : LeaseId) (reason : LapseReason) : (lapseTold s l reason).leases = s.leases := by
  unfold lapseTold
  dsimp only
  split
  · rw [State.postHolder_leases]; rfl
  · rfl

theorem lapseTold_channels (s : State) (l : LeaseId) (reason : LapseReason) (c : ChannelId) :
    (lapseTold s l reason).channels[c] =
      if s.inLease l c then s.channels[c].lapsed (reason == .revoked) else s.channels[c] := by
  have hchannels : (lapseTold s l reason).channels = (mapLease s l fun ch => ch.lapsed (reason == .revoked)).channels := by
    unfold lapseTold
    dsimp only
    split
    · rw [State.postHolder_channels]
    · rfl
  rw [hchannels, mapLease_get]

theorem lapseTold_localTo (s : State) (l : LeaseId) (reason : LapseReason) : LocalTo l s (lapseTold s l reason) := by
  unfold lapseTold
  dsimp only
  split
  · exact (mapLease_localTo ..).trans (State.postHolder_localTo ..)
  · exact mapLease_localTo ..

theorem lapseTold_of_holder {s : State} {l : LeaseId} {p : Port} (h : s.leases[l].holder = some p) (reason : LapseReason) :
    lapseTold s l reason =
      if reason.posts then (mapLease s l fun ch => ch.lapsed (reason == .revoked)).post p l (.lapsed reason)
      else mapLease s l fun ch => ch.lapsed (reason == .revoked) := by
  have hmapped : (mapLease s l fun ch => ch.lapsed (reason == .revoked)).leases[l].holder = some p := h
  rw [lapseTold, State.postHolder_of_holder hmapped]

theorem rewritten_postHolder (s : State) (l : LeaseId) {r : Lease} (hholder : r.holder = s.leases[l].holder)
    (d : Option Deadline) (k : Post) : (rewritten s l r d).postHolder l k = rewritten (s.postHolder l k) l r d := by
  unfold State.postHolder
  rw [rewritten_lease, hholder]
  cases s.leases[l].holder <;> rfl

/-- A lapse start rewrites the lease as LAPSING, over its channels lapsed and its holder told (R55). -/
theorem lapseStart_eq_rewritten (s : State) (l : LeaseId) (reason : LapseReason) :
    s.lapseStart l reason = rewritten (lapseTold s l reason) l (lapsingRecord s.leases[l] reason) none := by
  rw [lapseStart_eq, lapseTold, lapseBegun]
  split
  · exact rewritten_postHolder (mapLease s l fun ch => ch.lapsed (reason == .revoked)) l (r := lapsingRecord s.leases[l] reason)
      rfl none _
  · rfl

/-- Some channel of the lease is left PARKING by a lapse start (R56). -/
abbrev LeftParking (s : State) (l : LeaseId) (reason : LapseReason) : Prop :=
  ∃ c : ChannelId, s.inLease l c = true ∧ (s.channels[c].lapsed (reason == .revoked)).state = .parking

theorem handedDeadline_congr {s t : State} (hnow : t.now = s.now) {r r' : Lease} (hqueue : r'.queue = r.queue) :
    handedDeadline t r' = handedDeadline s r := by
  rw [handedDeadline, handedDeadline, hqueue, hnow]

/-- The completion of a lapse leaves nothing of what its start wrote into the lease table. -/
theorem handedOver_lapsing (s : State) (l : LeaseId) (reason : LapseReason) :
    handedOver (rewritten s l (lapsingRecord s.leases[l] reason) none) l = handedOver s l := by
  have hdeadline : handedDeadline (rewritten s l (lapsingRecord s.leases[l] reason) none) (lapsingRecord s.leases[l] reason) =
      handedDeadline s s.leases[l] := handedDeadline_congr rfl rfl
  rw [handedOver_eq, handedOver_eq, rewritten_lease, rewritten_rewritten s l (by rfl), handedOn_lapsingRecord, hdeadline]
  rfl

/-- A lapse leaves the lease LAPSING while a channel of it is left PARKING, and else hands it on (R55, R61). -/
theorem lapse_eq (s : State) (l : LeaseId) (reason : LapseReason) :
    (LeftParking s l reason →
        s.lapse l reason = rewritten (lapseTold s l reason) l (lapsingRecord s.leases[l] reason) none) ∧
      (¬LeftParking s l reason → s.lapse l reason = handedOver (lapseTold s l reason) l) := by
  have hstate : (s.lapseStart l reason).leases[l] = lapsingRecord s.leases[l] reason := by
    rw [lapseStart_eq_rewritten, rewritten_lease]
  have hany : (s.lapseStart l reason).anyParking l = true ↔ LeftParking s l reason := by
    rw [State.anyParking_iff]
    refine exists_congr fun c => ?_
    rw [State.lapseStart_inLease, State.lapseStart_channels_get]
    exact and_congr_right fun hin => by rw [if_pos hin]
  constructor
  · intro hleft
    rw [State.lapse, completeIfParked_of_not (.inr (hany.mpr hleft)), lapseStart_eq_rewritten]
  · intro hnone
    have hrecord : (lapseTold s l reason).leases[l] = s.leases[l] := by rw [lapseTold_leases]
    rw [State.lapse, completeIfParked_eq (by rw [hstate]; rfl) (by rw [hstate]; rfl)
      (Bool.eq_false_iff.mpr fun h => hnone (hany.mp h)), lapseStart_eq_rewritten, ← hrecord, handedOver_lapsing]

theorem handedOver_localTo (s : State) (l : LeaseId) : LocalTo l s (handedOver s l) := by
  rw [handedOver_eq]
  split
  · exact rewritten_localTo s l (handedOn_defn _) _
  · exact (rewritten_localTo s l (handedOn_defn _) _).trans (State.post_localTo ..)

end Sys2Proof.Claims

namespace Sys2Proof.Machine

open Sys2Proof.Claims

/-! ### Records -/

/-- The laws of one lease record (R3, R5, R14, R25). -/
structure Lease.Sound (r : Lease) : Prop where
  presence : r.presenceLaw
  value : r.valueLaw
  queue : r.queueLaw

theorem Lease.live_iff (r : Lease) : r.live = true ↔ r.state = .held ∨ r.state = .grace := by
  simp [Lease.live]

theorem Lease.heldBy_iff (r : Lease) (p : Port) : r.heldBy p = true ↔ r.live = true ∧ r.holder = some p := by
  simp [Lease.heldBy]

theorem Lease.entryOf_eq_none_iff (r : Lease) (p : Port) : r.entryOf p = none ↔ ∀ w ∈ r.queue, w.port ≠ p := by
  simp [Lease.entryOf]

theorem Lease.Sound.defn_of_state {r : Lease} (h : r.Sound) (hstate : r.state ≠ .undefined) :
    ∃ d : LeaseDef, r.defn = some d ∧ d.inRange = true := by
  obtain ⟨hdefn, -⟩ := h.presence
  obtain ⟨hrange, -⟩ := h.value
  cases hd : r.defn with
  | none => exact absurd (hdefn.mp hd) hstate
  | some d => exact ⟨d, rfl, by simpa [hd] using hrange⟩

theorem Lease.Sound.holder_of_live {r : Lease} (h : r.Sound) (hlive : r.live = true) : ∃ p : Port, r.holder = some p := by
  obtain ⟨-, -, hpresent, -⟩ := h.presence
  exact Option.isSome_iff_exists.mp (hpresent hlive).1

theorem Lease.Sound.not_pending_of_lapsing {r : Lease} (h : r.Sound) (hstate : r.state = .lapsing) :
    r.commitPending = false := by
  obtain ⟨-, -, -, hlapsing, -⟩ := h.presence
  obtain ⟨-, -, hpending, -⟩ := hlapsing hstate
  exact hpending

theorem Lease.Sound.of_vacant {r : Lease} (h : r.Sound) (hstate : r.state = .vacant) :
    r.holder = none ∧ r.term = none ∧ r.queue = [] ∧ r.commitPending = false := by
  obtain ⟨-, habsent, -⟩ := h.presence
  exact habsent (.inr hstate)

theorem Lease.state_ne_undefined_of_live {r : Lease} (h : r.live = true) : r.state ≠ .undefined := by
  obtain h | h := r.live_iff.mp h <;> rw [h] <;> decide

theorem Lease.state_ne_vacant_of_live {r : Lease} (h : r.live = true) : r.state ≠ .vacant := by
  obtain h | h := r.live_iff.mp h <;> rw [h] <;> decide

theorem Lease.state_ne_lapsing_of_live {r : Lease} (h : r.live = true) : r.state ≠ .lapsing := by
  obtain h | h := r.live_iff.mp h <;> rw [h] <;> decide

/-- A defined lease gone VACANT (R3). -/
theorem vacantRecord_sound {r : Lease} (h : r.Sound) (hstate : r.state ≠ .undefined) : (vacantRecord r).Sound := by
  obtain ⟨d, hdefn, hrange⟩ := h.defn_of_state hstate
  constructor <;>
    simp [vacantRecord, Lease.presenceLaw, Lease.valueLaw, Lease.queueLaw, hdefn, hrange, Lease.live, Lease.heldBy]

/-- A record granted: its term and its queue lie in the bounds, and the new holder waits no more (R25, R33). -/
theorem grantedRecord_sound {r : Lease} {d : LeaseDef} (hdefn : r.defn = some d) (hrange : d.inRange = true) {p : Port}
    {term : Word16} (hterm : r.termWithin term = true) {queue : List Waiter} (hqueue : ∀ w ∈ queue, r.termWithin w.term = true)
    (hnodup : (queue.map Waiter.port).Nodup) (hport : ∀ w ∈ queue, w.port ≠ p) : (grantedRecord r p term queue).Sound := by
  have hwithin (t : Word16) : (grantedRecord r p term queue).termWithin t = r.termWithin t := rfl
  constructor
  · simp [grantedRecord, Lease.presenceLaw, hdefn, Lease.live]
  · refine ⟨by simp [grantedRecord, hdefn, hrange], ?_, fun w hw => by rw [hwithin]; exact hqueue w hw,
      fun _ => nextEpoch_ne_zero _⟩
    rw [grantedRecord, Option.all_some]
    exact hterm
  · refine ⟨hnodup, fun q hq => ?_⟩
    obtain ⟨-, hq⟩ := (Lease.heldBy_iff ..).mp hq
    cases hq
    exact (Lease.entryOf_eq_none_iff ..).mpr hport

/-- A live record whose lapse has started (R55). -/
theorem lapsingRecord_sound {r : Lease} (h : r.Sound) (hlive : r.live = true) {reason : LapseReason} (hreason : reason ≠ .reset) :
    (lapsingRecord r reason).Sound := by
  obtain ⟨hdefn, -, hpresent, -⟩ := h.presence
  obtain ⟨hrange, -, hqueue, hepoch⟩ := h.value
  obtain ⟨hnodup, -⟩ := h.queue
  have hundefined : r.defn ≠ none := fun hd => Lease.state_ne_undefined_of_live hlive (hdefn.mp hd)
  refine ⟨?_, ⟨hrange, by simp [lapsingRecord], hqueue, fun _ => hepoch (.inl hlive)⟩, hnodup, ?_⟩
  · simp [lapsingRecord, Lease.presenceLaw, hundefined, Lease.live, (hpresent hlive).1, hreason]
  · simp [lapsingRecord, Lease.heldBy, Lease.live]

/-- A record handed on: to the queue head, whose entry goes, or to VACANT (R35, R61). -/
theorem handedOn_sound {r : Lease} (h : r.Sound) (hstate : r.state ≠ .undefined) : (handedOn r).Sound := by
  obtain ⟨d, hdefn, hrange⟩ := h.defn_of_state hstate
  obtain ⟨-, -, hqueue, -⟩ := h.value
  obtain ⟨hnodup, -⟩ := h.queue
  unfold handedOn
  split
  · exact vacantRecord_sound h hstate
  · next w rest hq =>
    rw [hq] at hqueue hnodup
    obtain ⟨hw, hrest⟩ := List.forall_mem_cons.mp hqueue
    rw [List.map_cons, List.nodup_cons] at hnodup
    obtain ⟨hout, hnodup⟩ := hnodup
    exact grantedRecord_sound (r := { r with commitPending := false }) hdefn hrange hw hrest hnodup fun x hx hport =>
      hout (List.mem_map.mpr ⟨x, hx, hport⟩)

theorem handedOn_commitPending (r : Lease) : (handedOn r).commitPending = false := by
  unfold handedOn
  split <;> rfl

theorem handedOn_state (r : Lease) : (handedOn r).state = .vacant ∨ (handedOn r).state = .held := by
  unfold handedOn
  split
  · exact .inl rfl
  · exact .inr rfl

/-- Taking a port's entry out of the queue (R24, R42). -/
theorem queueWithout_sound {r : Lease} (h : r.Sound) (p : Port) :
    ({ r with queue := r.queueWithout p } : Lease).Sound := by
  obtain ⟨hdefn, habsent, hpresent, hlapsing, hrest⟩ := h.presence
  obtain ⟨hrange, hterm, hqueue, hepoch⟩ := h.value
  obtain ⟨hnodup, hholder⟩ := h.queue
  have hsub : (r.queueWithout p).Sublist r.queue := List.filter_sublist
  refine ⟨⟨hdefn, fun hs => ?_, hpresent, hlapsing, hrest⟩, ⟨hrange, hterm, fun w hw => hqueue w (hsub.subset hw), hepoch⟩,
    hnodup.sublist (hsub.map _), fun q hq => ?_⟩
  · obtain ⟨hh, ht, hq, hp⟩ := habsent hs
    exact ⟨hh, ht, by rw [Lease.queueWithout, hq]; rfl, hp⟩
  · exact (Lease.entryOf_eq_none_iff ..).mpr fun w hw => (Lease.entryOf_eq_none_iff ..).mp (hholder q hq) w (hsub.subset hw)

/-- Putting a new entry at the tail (R28). -/
theorem queue_append_sound {r : Lease} (h : r.Sound) (hundefined : r.state ≠ .undefined) (hvacant : r.state ≠ .vacant) {p : Port}
    {term : Word16} (hterm : r.termWithin term = true) (hholder : r.heldBy p = false) (hentry : r.entryOf p = none) :
    ({ r with queue := r.queue ++ [{ port := p, term := term }] } : Lease).Sound := by
  obtain ⟨hdefn, habsent, hpresence⟩ := h.presence
  obtain ⟨hrange, hown, hqueue, hepoch⟩ := h.value
  obtain ⟨hnodup, hheld⟩ := h.queue
  have hout := (Lease.entryOf_eq_none_iff ..).mp hentry
  refine ⟨⟨hdefn, fun hs => absurd hs (not_or.mpr ⟨hundefined, hvacant⟩), hpresence⟩, ⟨hrange, hown, ?_, hepoch⟩, ?_, ?_⟩
  · intro w hw
    obtain hw | hw := List.mem_append.mp hw
    · exact hqueue w hw
    · rw [List.mem_singleton.mp hw]; exact hterm
  · rw [List.map_append, List.nodup_append]
    refine ⟨hnodup, List.nodup_singleton _, ?_⟩
    intro a ha b hb hab
    obtain ⟨w, hw, rfl⟩ := List.mem_map.mp ha
    rw [List.map_singleton, List.mem_singleton] at hb
    exact hout w hw (hab.trans hb)
  · intro q hq
    refine (Lease.entryOf_eq_none_iff ..).mpr fun w hw => ?_
    obtain hw | hw := List.mem_append.mp hw
    · exact (Lease.entryOf_eq_none_iff ..).mp (hheld q hq) w hw
    · rw [List.mem_singleton.mp hw]
      rintro rfl
      exact Bool.noConfusion (hholder.symm.trans hq)

/-- A live record may change to the other live state, and take another term within the bounds (R50, R52). -/
theorem live_record_sound {r : Lease} (h : r.Sound) (hlive : r.live = true) {st : LeaseState}
    (hst : st = .held ∨ st = .grace) {term : Option Word16} (hsome : term.isSome = true) (hterm : term.all r.termWithin = true) :
    ({ r with state := st, term := term } : Lease).Sound := by
  obtain ⟨hdefn, habsent, hpresent, hlapsing, hdeparting, hreason⟩ := h.presence
  obtain ⟨hrange, -, hqueue, hepoch⟩ := h.value
  obtain ⟨hnodup, hheld⟩ := h.queue
  have hlapse := Lease.state_ne_lapsing_of_live hlive
  have hundefined : r.defn ≠ none := fun hd => Lease.state_ne_undefined_of_live hlive (hdefn.mp hd)
  have hdep : r.departing = false := Bool.eq_false_iff.mpr fun hd => hlapse (hdeparting.mp hd)
  refine ⟨?_, ⟨hrange, hterm, hqueue, fun _ => hepoch (.inl hlive)⟩, hnodup, fun p hp => hheld p ?_⟩
  · obtain rfl | rfl := hst <;> simp [Lease.presenceLaw, Lease.live, hundefined, hdep, hreason hlapse, (hpresent hlive).1, hsome]
  · exact (Lease.heldBy_iff ..).mpr ⟨hlive, ((Lease.heldBy_iff ..).mp hp).2⟩

/-- A commit may end, and one of a live lease may be pending (R98). -/
theorem commitPending_sound {r : Lease} (h : r.Sound) {b : Bool} (hb : b = true → r.live = true) :
    ({ r with commitPending := b } : Lease).Sound := by
  obtain ⟨hdefn, habsent, hpresent, hlapsing, hrest⟩ := h.presence
  have hnot (hs : r.live = false) : b = false := Bool.eq_false_iff.mpr fun ht => Bool.noConfusion (hs.symm.trans (hb ht))
  refine ⟨⟨hdefn, fun hs => ?_, hpresent, fun hs => ?_, hrest⟩, h.value, h.queue⟩
  · obtain ⟨hh, ht, hq, -⟩ := habsent hs
    refine ⟨hh, ht, hq, hnot ?_⟩
    obtain hs | hs : r.state = .undefined ∨ r.state = .vacant := hs
    · simp [Lease.live, hs]
    · simp [Lease.live, hs]
  · obtain ⟨hh, ht, -, hrest⟩ := hlapsing hs
    have hs : r.state = .lapsing := hs
    exact ⟨hh, ht, hnot (by simp [Lease.live, hs]), hrest⟩

/-! ### Deadlines ahead -/

/-- How far ahead a deadline of the lease may lie (R48). -/
abbrev Lease.DeadlineFits (r : Lease) (now : Tick) (d : Deadline) : Prop :=
  1#32 ≤ d.tick - now ∧ d.tick - now ≤ r.longestAhead.setWidth 32

/-- A deadline set now for `n` ticks lies `n` ticks ahead (R44, R45). -/
theorem deadlineFits_tickAfter {r : Lease} {n : Word16} (hpos : 1 ≤ n.toNat) (hmax : n ≤ r.longestAhead) (now : Tick)
    (kind : DeadlineKind) : r.DeadlineFits now { kind := kind, tick := now + n.setWidth 32 } := by
  have hahead : now + n.setWidth 32 - now = n.setWidth 32 := by rw [BitVec.add_comm, BitVec.add_sub_cancel]
  have hmax : n.toNat ≤ r.longestAhead.toNat := hmax
  have hn : n.toNat < 2 ^ 16 := n.isLt
  have hr : r.longestAhead.toNat < 2 ^ 16 := r.longestAhead.isLt
  dsimp only [Lease.DeadlineFits]
  rw [hahead, BitVec.le_def, BitVec.le_def, BitVec.toNat_setWidth, BitVec.toNat_setWidth, Nat.mod_eq_of_lt (by omega),
    Nat.mod_eq_of_lt (by omega)]
  exact ⟨hpos, hmax⟩

/-- A term within the bounds gives a TERM deadline in bounds (R20, R48). -/
theorem term_deadline_fits {r : Lease} {d : LeaseDef} (hdefn : r.defn = some d) (hrange : d.inRange = true)
    (hstate : r.state = .held) {term : Word16} (hterm : r.termWithin term = true) (now : Tick) :
    r.DeadlineFits now { kind := .term, tick := now + term.setWidth 32 } := by
  rw [Lease.termWithin_of_defn hdefn, Bool.and_eq_true, decide_eq_true_iff, decide_eq_true_iff] at hterm
  obtain ⟨hmin, hmax⟩ := hterm
  simp only [LeaseDef.inRange, termInRange, Bool.and_eq_true, decide_eq_true_iff] at hrange
  obtain ⟨⟨⟨⟨-, hshort, -⟩, -⟩, -⟩, -⟩ := hrange
  have hpos : 10 ≤ d.termMin.toNat := hshort
  have hmin : d.termMin.toNat ≤ term.toNat := hmin
  exact deadlineFits_tickAfter (by omega) (by rwa [Lease.longestAhead, hstate, hdefn]) now .term

/-- A grace above 0 gives a GRACE deadline in bounds (R48, R52). -/
theorem grace_deadline_fits {r : Lease} {d : LeaseDef} (hdefn : r.defn = some d) (hstate : r.state = .grace)
    (hgrace : d.grace ≠ 0) (now : Tick) : r.DeadlineFits now { kind := .grace, tick := now + d.grace.setWidth 32 } := by
  have hpos : d.grace.toNat ≠ 0 := fun h => hgrace (BitVec.eq_of_toNat_eq h)
  exact deadlineFits_tickAfter (by omega) (by rw [Lease.longestAhead, hstate, hdefn]; exact BitVec.le_refl _) now .grace

/-- The deadline of a lease handed on fits its new record (R33, R48, R61). -/
theorem handedDeadline_fits {r : Lease} (h : r.Sound) (hstate : r.state ≠ .undefined) (s : State) :
    (handedDeadline s r).map Deadline.kind = (handedOn r).state.deadlineKind ∧
      ∀ d ∈ handedDeadline s r, (handedOn r).DeadlineFits s.now d := by
  obtain ⟨d, hdefn, hrange⟩ := h.defn_of_state hstate
  obtain ⟨-, -, hqueue, -⟩ := h.value
  unfold handedDeadline handedOn
  cases hq : r.queue with
  | nil => exact ⟨rfl, fun d hd => by cases hd⟩
  | cons w rest =>
    rw [hq] at hqueue
    refine ⟨rfl, fun x hx => ?_⟩
    cases hx
    exact term_deadline_fits (r := grantedRecord _ w.port w.term rest) hdefn hrange rfl
      (hqueue w (List.mem_cons_self ..)) s.now

end Sys2Proof.Machine
end

section
/-! SUPPORT. The laws of the lease table and of the outputs as one invariant, lease by lease and channel by channel, and what an
operation local to one lease has to show to keep it.

The invariant takes the waiting events as a parameter `w`: within the take of an event the invariant still counts the event as waiting,
until the operations of the take have ended what it stood for. -/

namespace Sys2Proof.Machine

open Sys2Proof.Claims

/-! ### Waiting events -/

/-- The event has been raised and not yet taken. -/
def State.waits (s : State) (e : Event) : Prop := e ∈ s.events.flatten

theorem State.waitingEvent_iff (s : State) (p : Event → Bool) : s.waitingEvent p = true ↔ ∃ e, s.waits e ∧ p e = true := by
  simp only [State.waitingEvent, State.waits, List.any_eq_true, List.mem_flatten]
  constructor
  · rintro ⟨b, hb, e, he, hp⟩
    exact ⟨e, ⟨b, hb, he⟩, hp⟩
  · rintro ⟨e, ⟨b, hb, he⟩, hp⟩
    exact ⟨b, hb, e, he, hp⟩

theorem Event.isExpiryOf_iff (e : Event) (l : LeaseId) : e.isExpiryOf l = true ↔ ∃ k, e = .expiry l k := by
  cases e <;> simp [Event.isExpiryOf]

theorem State.expiryWaits_eq_false_iff (s : State) (l : LeaseId) :
    s.expiryWaits l = false ↔ ∀ k, ¬s.waits (.expiry l k) := by
  rw [← Bool.not_eq_true, State.expiryWaits, State.waitingEvent_iff]
  simp only [Event.isExpiryOf_iff]
  constructor
  · exact fun h k hk => h ⟨_, hk, k, rfl⟩
  · rintro h ⟨e, he, k, rfl⟩
    exact h k he

/-- The waiting events without the lease's expiries. -/
def unexpired (l : LeaseId) (w : Event → Prop) : Event → Prop := fun e => w e ∧ e.isExpiryOf l = false

theorem State.waits_of_withdrawn {s t : State} {l : LeaseId}
    (h : t.events = withoutEvents (fun e => e.isExpiryOf l) s.events) : t.waits = unexpired l s.waits := by
  funext e
  rw [State.waits, h, mem_withoutEvents_flatten]
  rfl

theorem State.waits_congr {s t : State} (h : t.events = s.events) : t.waits = s.waits := by
  funext e
  rw [State.waits, h]
  rfl

theorem State.waits_raise (s : State) (es : List Event) (e : Event) : (s.raise es).waits e ↔ s.waits e ∨ e ∈ es := by
  simp only [State.waits, State.raise_events]
  split
  · next h => simp [h]
  · simp

/-- Taking a due event leaves every other event waiting, and adds none. -/
theorem State.waits_dropDue (s : State) (e x : Event) :
    ((s.dropDue e).waits x → s.waits x) ∧ (x ≠ e → s.waits x → (s.dropDue e).waits x) := by
  unfold State.dropDue State.waits
  split
  · exact ⟨id, fun _ => id⟩
  · next b rest hs =>
    dsimp only
    have hflat : (if b.erase e = [] then rest else b.erase e :: rest).flatten = b.erase e ++ rest.flatten := by
      split
      · next h => rw [h, List.nil_append]
      · rfl
    rw [hflat, hs, List.flatten_cons, List.mem_append, List.mem_append]
    exact ⟨Or.imp_left List.mem_of_mem_erase, fun hne => Or.imp_left (List.mem_erase_of_ne hne).mpr⟩

/-! ### The invariant -/

/-- What a pending commit stands on: no mark, the lead RUNNING, something staged (R98). -/
structure CommitStands (s : State) (l : LeaseId) : Prop where
  unhalted : ∀ c : ChannelId, s.inLease l c = true → s.channels[c].halted = false
  lead : ∃ c : ChannelId, s.leases[l].hasLead c = true ∧ s.channels[c].state = .running
  staged : ∃ c : ChannelId, s.inLease l c = true ∧ s.slots[c].isSome = true

/-- The laws of one lease: its record, its deadline and expiry, its PARKING channels and its pending commit (R3, R46, R48, R58, R98). -/
structure LeaseSound (w : Event → Prop) (s : State) (l : LeaseId) : Prop where
  record : s.leases[l].Sound
  kind : s.deadlines[l].map Deadline.kind = s.leases[l].state.deadlineKind
  ahead : ∀ d ∈ s.deadlines[l], (∀ k, ¬w (.expiry l k)) → s.leases[l].DeadlineFits s.now d
  expiry : ∀ k, w (.expiry l k) → s.deadlines[l].map Deadline.kind = some k
  parking : s.leases[l].state = .lapsing → ∃ c : ChannelId, s.inLease l c = true ∧ s.channels[c].state = .parking
  commit : s.leases[l].commitPending = true → CommitStands s l

/-- The laws of one channel record at the taken levels (R72, R76 to R84, R119). -/
structure Channel.Sound (ch : Channel) (h : HaltLevels) : Prop where
  output : ch.outputLaw
  valid : ∀ ps ∈ ch.active, ps.valid = true
  halted : ch.halted = haltCondition ch.haltGroup h
  parked : ch.halted = true → ch.state = .parked

/-- The laws of one channel: its record, its hold, its slot, and the lease its state asks for (R58, R80, R82, R87, R91, R92). -/
structure ChannelSound (w : Event → Prop) (s : State) (c : ChannelId) : Prop where
  own : s.channels[c].Sound s.haltTaken
  hold : s.channels[c].hold = true → w (.periodEnd c s.channels[c].holdSerial)
  begun : ∀ n : Nat, w (.periodEnd c n) → n ≤ s.channels[c].holdSerial
  staged : ∀ x ∈ s.slots[c], x.params.valid = true ∧
    ∃ l : LeaseId, s.channels[c].lease = some l ∧ s.leases[l].live = true ∧ x.tag = s.leases[l].epoch
  parking : s.channels[c].state = .parking →
    ∃ l : LeaseId, s.channels[c].lease = some l ∧ s.leases[l].state = .lapsing
  outside : s.channels[c].state = .running ∨ s.channels[c].state = .ended →
    ∃ l : LeaseId, s.channels[c].lease = some l ∧ s.leases[l].live = true

/-- The laws of the lease table and of the outputs, while the events of `w` wait. -/
structure Sound (w : Event → Prop) (s : State) : Prop where
  tie : s.tieLaw
  lease : ∀ l : LeaseId, LeaseSound w s l
  channel : ∀ c : ChannelId, ChannelSound w s c

theorem countChannels_ne_zero_iff (p : ChannelId → Bool) : countChannels p ≠ 0 ↔ ∃ c : ChannelId, p c = true := by
  rw [countChannels, Ne, List.length_eq_zero_iff, List.filter_eq_nil_iff]
  simp

theorem State.countStaged_ne_zero_iff (s : State) (l : LeaseId) :
    s.countStaged l ≠ 0 ↔ ∃ c : ChannelId, s.inLease l c = true ∧ s.slots[c].isSome = true := by
  simp only [State.countStaged, countChannels_ne_zero_iff, Bool.and_eq_true]

theorem State.leadRunning_iff (s : State) (l : LeaseId) :
    s.leadRunning l = true ↔ ∃ c : ChannelId, s.leases[l].hasLead c = true ∧ s.channels[c].state = .running := by
  simp [State.leadRunning, List.any_eq_true, -Fin.getElem_fin]

theorem State.anyHalted_eq_false_iff (s : State) (l : LeaseId) :
    s.anyHalted l = false ↔ ∀ c : ChannelId, s.inLease l c = true → s.channels[c].halted = false := by
  rw [← Bool.not_eq_true, State.anyHalted_iff]
  simp only [not_exists, not_and, Bool.not_eq_true]

/-- A lawful state keeps the invariant, its raised events waiting. -/
theorem State.Lawful.sound {s : State} (h : s.Lawful) : Sound s.waits s where
  tie := h.tie
  lease l := by
    obtain ⟨hpresence, hvalue, hqueue⟩ := h.record l
    obtain ⟨hkind, hahead⟩ := h.deadline l
    refine ⟨⟨hpresence, hvalue, hqueue⟩, hkind, fun d hd hw => ?_, fun k hk => ?_, fun hs => ?_, fun hc => ?_⟩
    · exact hahead d hd ((s.expiryWaits_eq_false_iff l).mpr hw)
    · obtain ⟨b, hb, he⟩ := List.mem_flatten.mp hk
      obtain ⟨hstands, -⟩ := h.event
      simpa [State.eventStands] using (hstands b hb).2 _ he
    · exact (s.anyParking_iff l).mp (h.parking.2 l hs)
    · obtain ⟨-, hhalted, hlead, hstaged⟩ := h.pendingCommit l hc
      exact ⟨(s.anyHalted_eq_false_iff l).mp hhalted, (s.leadRunning_iff l).mp hlead, (s.countStaged_ne_zero_iff l).mp hstaged⟩
  channel c := by
    obtain ⟨houtput, hvalid⟩ := h.channel c
    obtain ⟨hhalted, hparked⟩ := h.halt c
    refine ⟨⟨houtput, hvalid, hhalted, hparked⟩, fun hh => ?_, fun n hn => ?_, h.staging c, h.parking.1 c, h.outside c⟩
    · obtain ⟨e, he, heq⟩ := (s.waitingEvent_iff _).mp (h.hold.1 c hh)
      rwa [beq_iff_eq.mp heq] at he
    · obtain ⟨b, hb, he⟩ := List.mem_flatten.mp hn
      simpa [State.holdBegun] using h.hold.2 b hb _ he

theorem Lease.Sound.live_of_commitPending {r : Lease} (h : r.Sound) (hp : r.commitPending = true) : r.live = true := by
  obtain ⟨-, habsent, -, hlapsing, -⟩ := h.presence
  rw [Lease.live_iff]
  cases hs : r.state with
  | held => exact .inl rfl
  | grace => exact .inr rfl
  | undefined => exact absurd (habsent (.inl hs)).2.2.2 (by rw [hp]; decide)
  | vacant => exact absurd (habsent (.inr hs)).2.2.2 (by rw [hp]; decide)
  | lapsing => exact absurd (hlapsing hs).2.2.1 (by rw [hp]; decide)

/-! ### From the invariant back to the laws -/

section
variable {s : State} (h : Sound s.waits s)
include h

theorem Sound.recordLaw : s.recordLaw := fun l =>
  have hr := (h.lease l).record
  ⟨hr.presence, hr.value, hr.queue⟩

theorem Sound.deadlineLaw : s.deadlineLaw := fun l =>
  ⟨(h.lease l).kind, fun d hd hw => (h.lease l).ahead d hd ((s.expiryWaits_eq_false_iff l).mp hw)⟩

theorem Sound.parkingLaw : s.parkingLaw :=
  ⟨fun c => (h.channel c).parking, fun l hs => (s.anyParking_iff l).mpr ((h.lease l).parking hs)⟩

theorem Sound.outsideLaw : s.outsideLaw := fun c => (h.channel c).outside

theorem Sound.channelLaw : s.channelLaw := fun c => ⟨(h.channel c).own.output, (h.channel c).own.valid⟩

theorem Sound.holdLaw : s.holdLaw := by
  refine ⟨fun c hc => (s.waitingEvent_iff _).mpr ⟨_, (h.channel c).hold hc, beq_self_eq_true _⟩, fun b hb e he => ?_⟩
  cases e with
  | periodEnd c n => exact decide_eq_true ((h.channel c).begun n (List.mem_flatten.mpr ⟨b, hb, he⟩))
  | _ => rfl

theorem Sound.stagingLaw : s.stagingLaw := fun c => (h.channel c).staged

theorem Sound.pendingLaw : s.pendingLaw := fun l hp =>
  have hc := (h.lease l).commit hp
  ⟨(h.lease l).record.live_of_commitPending hp, (s.anyHalted_eq_false_iff l).mpr hc.unhalted,
    (s.leadRunning_iff l).mpr hc.lead, (s.countStaged_ne_zero_iff l).mpr hc.staged⟩

theorem Sound.haltLaw : s.haltLaw := fun c => ⟨(h.channel c).own.halted, (h.channel c).own.parked⟩

end

/-! ### Membership -/

section
variable {w : Event → Prop} {s : State} (h : Sound w s)
include h

theorem Sound.lease_of_inLease {l : LeaseId} {c : ChannelId} (hin : s.inLease l c = true) : s.channels[c].lease = some l :=
  (h.tie l c).mpr hin

theorem Sound.inLease_of_lease {l : LeaseId} {c : ChannelId} (hl : s.channels[c].lease = some l) : s.inLease l c = true :=
  (h.tie l c).mp hl

/-- A channel is in one lease at most (R4). -/
theorem Sound.not_inLease_of_ne {l l' : LeaseId} {c : ChannelId} (hin : s.inLease l c = true) (hne : l' ≠ l) :
    s.inLease l' c = false := by
  refine Bool.eq_false_iff.mpr fun hin' => hne ?_
  have heq := (h.lease_of_inLease hin').symm.trans (h.lease_of_inLease hin)
  exact Option.some.inj heq

theorem Sound.lapsing_of_parking {l : LeaseId} {c : ChannelId} (hin : s.inLease l c = true)
    (hc : s.channels[c].state = .parking) : s.leases[l].state = .lapsing := by
  obtain ⟨l', hl', hs⟩ := (h.channel c).parking hc
  obtain rfl := Option.some.inj (hl'.symm.trans (h.lease_of_inLease hin))
  exact hs

theorem Sound.live_of_outside {l : LeaseId} {c : ChannelId} (hin : s.inLease l c = true)
    (hc : s.channels[c].state = .running ∨ s.channels[c].state = .ended) : s.leases[l].live = true := by
  obtain ⟨l', hl', hs⟩ := (h.channel c).outside hc
  obtain rfl := Option.some.inj (hl'.symm.trans (h.lease_of_inLease hin))
  exact hs

/-- What is staged in a lease is valid, and of its current epoch (R91, R92). -/
theorem Sound.staged_of_inLease {l : LeaseId} {c : ChannelId} (hin : s.inLease l c = true) {x : StagedSet}
    (hx : x ∈ s.slots[c]) : x.params.valid = true ∧ s.leases[l].live = true ∧ x.tag = s.leases[l].epoch := by
  obtain ⟨hvalid, l', hl', hlive, htag⟩ := (h.channel c).staged x hx
  obtain rfl := Option.some.inj (hl'.symm.trans (h.lease_of_inLease hin))
  exact ⟨hvalid, hlive, htag⟩

/-- The channels of a VACANT or UNDEFINED lease are PARKED (R87). -/
theorem Sound.parked_of_idle {l : LeaseId} {c : ChannelId} (hin : s.inLease l c = true) (hlive : s.leases[l].live = false)
    (hlapsing : s.leases[l].state ≠ .lapsing) : s.channels[c].state = .parked := by
  cases hc : s.channels[c].state with
  | parked => rfl
  | parking => exact absurd (h.lapsing_of_parking hin hc) hlapsing
  | running => exact absurd (h.live_of_outside hin (.inl hc)) (by rw [hlive]; decide)
  | ended => exact absurd (h.live_of_outside hin (.inr hc)) (by rw [hlive]; decide)

/-- A channel outside every lease is PARKED, and has nothing staged (R87, R92). -/
theorem Sound.idle_of_no_lease {c : ChannelId} (hc : s.channels[c].lease = none) :
    s.channels[c].state = .parked ∧ s.slots[c] = none := by
  have hno {P : LeaseId → Prop} : ¬∃ l : LeaseId, s.channels[c].lease = some l ∧ P l := by
    rintro ⟨l, hl, -⟩
    cases hc.symm.trans hl
  constructor
  · cases hs : s.channels[c].state with
    | parked => rfl
    | parking => exact absurd ((h.channel c).parking hs) hno
    | running => exact absurd ((h.channel c).outside (.inl hs)) hno
    | ended => exact absurd ((h.channel c).outside (.inr hs)) hno
  · refine Option.eq_none_iff_forall_not_mem.mpr fun x hx => ?_
    exact hno ((h.channel c).staged x hx).2

/-- The lead of a lease is a channel of it (R5). -/
theorem Sound.inLease_of_hasLead {l : LeaseId} {c : ChannelId} (hlead : s.leases[l].hasLead c = true) :
    s.inLease l c = true := by
  obtain ⟨hrange, -⟩ := (h.lease l).record.value
  cases hd : s.leases[l].defn with
  | none => simp [Lease.hasLead, hd, -Fin.getElem_fin] at hlead
  | some d =>
    obtain rfl : d.lead = c := by simpa [Lease.hasLead, hd, -Fin.getElem_fin] using hlead
    have hd' : d.inRange = true := by simpa [hd, -Fin.getElem_fin] using hrange
    simp only [LeaseDef.inRange, Bool.and_eq_true] at hd'
    obtain ⟨⟨⟨⟨hin, -⟩, -⟩, -⟩, -⟩ := hd'
    simpa [State.inLease, Lease.channelSet, hd, -Fin.getElem_fin] using hin

end

/-! ### What is untouched stays sound -/

theorem LeaseSound.of_same {w w' : Event → Prop} {s t : State} {l : LeaseId} (hs : Sound w s)
    (hlease : t.leases[l] = s.leases[l]) (hdeadline : t.deadlines[l] = s.deadlines[l]) (hnow : t.now = s.now)
    (hw : ∀ k, w' (.expiry l k) ↔ w (.expiry l k))
    (hchannels : ∀ c : ChannelId, s.inLease l c = true →
      t.channels[c].state = s.channels[c].state ∧ t.channels[c].halted = s.channels[c].halted ∧ t.slots[c] = s.slots[c]) :
    LeaseSound w' t l := by
  have h := hs.lease l
  have hin (c : ChannelId) : t.inLease l c = s.inLease l c := State.inLease_congr (by rw [hlease]) c
  refine ⟨?_, ?_, ?_, ?_, ?_, ?_⟩
  · rw [hlease]; exact h.record
  · rw [hlease, hdeadline]; exact h.kind
  · rw [hlease, hdeadline, hnow]
    exact fun d hd hno => h.ahead d hd fun k hk => hno k ((hw k).mpr hk)
  · rw [hdeadline]
    exact fun k hk => h.expiry k ((hw k).mp hk)
  · rw [hlease]
    intro hstate
    obtain ⟨c, hc, hp⟩ := h.parking hstate
    exact ⟨c, (hin c).trans hc, (hchannels c hc).1.trans hp⟩
  · rw [hlease]
    intro hpending
    obtain ⟨hunhalted, ⟨c, hlead, hrun⟩, ⟨c', hc', hstaged⟩⟩ := h.commit hpending
    refine ⟨fun c hc => ?_, ⟨c, by rw [hlease]; exact hlead, ?_⟩, ⟨c', (hin c').trans hc', ?_⟩⟩
    · rw [hin] at hc
      exact (hchannels c hc).2.1.trans (hunhalted c hc)
    · exact (hchannels c (hs.inLease_of_hasLead hlead)).1.trans hrun
    · rw [(hchannels c' hc').2.2]; exact hstaged

theorem ChannelSound.of_same {w w' : Event → Prop} {s t : State} {c : ChannelId} (h : ChannelSound w s c)
    (hchannel : t.channels[c] = s.channels[c]) (hslot : t.slots[c] = s.slots[c]) (hhalt : t.haltTaken = s.haltTaken)
    (hw : ∀ n, w' (.periodEnd c n) ↔ w (.periodEnd c n))
    (hlease : ∀ l : LeaseId, s.channels[c].lease = some l →
      t.leases[l].state = s.leases[l].state ∧ t.leases[l].epoch = s.leases[l].epoch) : ChannelSound w' t c := by
  have hlive (l : LeaseId) (hl : s.channels[c].lease = some l) : t.leases[l].live = s.leases[l].live := by
    rw [Lease.live, Lease.live, (hlease l hl).1]
  refine ⟨?_, ?_, ?_, ?_, ?_, ?_⟩
  · rw [hchannel, hhalt]; exact h.own
  · rw [hchannel]; exact fun hh => (hw _).mpr (h.hold hh)
  · rw [hchannel]; exact fun n hn => h.begun n ((hw n).mp hn)
  · rw [hchannel, hslot]
    intro x hx
    obtain ⟨hvalid, l, hl, hlv, htag⟩ := h.staged x hx
    exact ⟨hvalid, l, hl, (hlive l hl).trans hlv, htag.trans (hlease l hl).2.symm⟩
  · rw [hchannel]
    intro hp
    obtain ⟨l, hl, hs⟩ := h.parking hp
    exact ⟨l, hl, (hlease l hl).1.trans hs⟩
  · rw [hchannel]
    intro ho
    obtain ⟨l, hl, hs⟩ := h.outside ho
    exact ⟨l, hl, (hlive l hl).trans hs⟩

/-- The invariant reads seven fields of the state, and of the events the expiries and period ends. -/
theorem Sound.congr {w w' : Event → Prop} {s t : State} (h : Sound w s) (hleases : t.leases = s.leases)
    (hdeadlines : t.deadlines = s.deadlines) (hslots : t.slots = s.slots) (hchannels : t.channels = s.channels)
    (hhalt : t.haltTaken = s.haltTaken) (hnow : t.now = s.now) (hw : ∀ e, w' e ↔ w e) : Sound w' t where
  tie l c := by
    have hin : t.inLease l c = s.inLease l c := State.inLease_congr (by rw [hleases]) c
    rw [hchannels, hin]
    exact h.tie l c
  lease l := .of_same h (by rw [hleases]) (by rw [hdeadlines]) hnow (fun k => hw _)
    fun c _ => ⟨by rw [hchannels], by rw [hchannels], by rw [hslots]⟩
  channel c := (h.channel c).of_same (by rw [hchannels]) (by rw [hslots]) hhalt (fun n => hw _)
    fun l _ => ⟨by rw [hleases], by rw [hleases]⟩

theorem Sound.post {w : Event → Prop} {s : State} (h : Sound w s) (p : Port) (l : LeaseId) (k : Post) :
    Sound w (s.post p l k) := h.congr rfl rfl rfl rfl rfl rfl fun _ => .rfl

theorem Sound.postHolder {w : Event → Prop} {s : State} (h : Sound w s) (l : LeaseId) (k : Post) :
    Sound w (s.postHolder l k) := by
  refine h.congr ?_ ?_ ?_ ?_ ?_ ?_ fun _ => .rfl <;> simp

theorem Sound.dropDue {w : Event → Prop} {s : State} (h : Sound w s) (e : Event) : Sound w (s.dropDue e) := by
  refine h.congr ?_ ?_ ?_ ?_ ?_ ?_ fun _ => .rfl <;> simp

/-- A step local to one lease keeps the invariant if it keeps that lease's laws and those of its channels. -/
theorem Sound.of_localTo {w w' : Event → Prop} {s t : State} {l : LeaseId} (h : Sound w s) (hl : LocalTo l s t)
    (hexpiries : ∀ l' : LeaseId, l' ≠ l → ∀ k, w' (.expiry l' k) ↔ w (.expiry l' k))
    (hends : ∀ c : ChannelId, s.inLease l c = false → ∀ n, w' (.periodEnd c n) ↔ w (.periodEnd c n))
    (hlease : LeaseSound w' t l)
    (htied : ∀ c : ChannelId, s.inLease l c = true → t.channels[c].lease = s.channels[c].lease)
    (hchannel : ∀ c : ChannelId, s.inLease l c = true → ChannelSound w' t c) : Sound w' t where
  tie l' c := by
    have hc : t.channels[c].lease = s.channels[c].lease := by
      cases hin : s.inLease l c with
      | true => exact htied c hin
      | false => rw [hl.channels c hin]
    rw [hc, hl.inLease]
    exact h.tie l' c
  lease l' := by
    by_cases heq : l' = l
    · subst heq; exact hlease
    · refine .of_same h (hl.leases l' heq) (hl.deadlines l' heq) hl.now (hexpiries l' heq) fun c hc => ?_
      have hout := h.not_inLease_of_ne hc (Ne.symm heq)
      rw [hl.channels c hout, hl.slots c hout]
      exact ⟨rfl, rfl, rfl⟩
  channel c := by
    cases hin : s.inLease l c with
    | true => exact hchannel c hin
    | false =>
      refine (h.channel c).of_same (hl.channels c hin) (hl.slots c hin) hl.haltTaken (hends c hin) fun l' hl' => ?_
      have hne : l' ≠ l := by
        rintro rfl
        exact Bool.noConfusion (hin.symm.trans (h.inLease_of_lease hl'))
      rw [hl.leases l' hne]
      exact ⟨rfl, rfl⟩

/-- A channel record goes on in its lease: no hold begins, and its own laws stand after. -/
structure Channel.Kept (h : HaltLevels) (ch ch' : Channel) : Prop where
  lease : ch'.lease = ch.lease
  holdSerial : ch'.holdSerial = ch.holdSerial
  hold : ch'.hold = true → ch.hold = true
  own : ch'.Sound h

theorem Channel.Sound.kept {h : HaltLevels} {ch : Channel} (hs : ch.Sound h) : ch.Kept h ch := ⟨rfl, rfl, id, hs⟩

theorem Channel.Kept.trans {h : HaltLevels} {ch ch' ch'' : Channel} (h1 : ch.Kept h ch') (h2 : ch'.Kept h ch'') :
    ch.Kept h ch'' :=
  ⟨h2.lease.trans h1.lease, h2.holdSerial.trans h1.holdSerial, fun hh => h1.hold (h2.hold hh), h2.own⟩

/-- A step local to one lease under which its channels go on keeps the invariant if the lease's laws stand after, and the lease's new
state suits what its channels do and hold. -/
theorem Sound.of_kept {w w' : Event → Prop} {s t : State} {l : LeaseId} (h : Sound w s) (hl : LocalTo l s t)
    (hw : ∀ e : Event, e.isExpiryOf l = false → (w' e ↔ w e)) (hlease : LeaseSound w' t l)
    (hkept : ∀ c : ChannelId, s.inLease l c = true → s.channels[c].Kept s.haltTaken t.channels[c])
    (hslots : ∀ c : ChannelId, s.inLease l c = true → ∀ x ∈ t.slots[c],
      x.params.valid = true ∧ t.leases[l].live = true ∧ x.tag = t.leases[l].epoch)
    (hparking : ∀ c : ChannelId, s.inLease l c = true → t.channels[c].state = .parking → t.leases[l].state = .lapsing)
    (houtside : ∀ c : ChannelId, s.inLease l c = true →
      t.channels[c].state = .running ∨ t.channels[c].state = .ended → t.leases[l].live = true) : Sound w' t := by
  have hends (c : ChannelId) (n : Nat) : w' (.periodEnd c n) ↔ w (.periodEnd c n) := hw _ rfl
  refine h.of_localTo hl (fun l' hne k => hw _ (beq_false_of_ne hne)) (fun c _ => hends c) hlease
    (fun c hc => (hkept c hc).lease) fun c hc => ?_
  have hk := hkept c hc
  have htied : t.channels[c].lease = some l := hk.lease.trans (h.lease_of_inLease hc)
  refine ⟨?_, ?_, ?_, ?_, ?_, ?_⟩
  · rw [hl.haltTaken]; exact hk.own
  · rw [hk.holdSerial]
    exact fun hh => (hends c _).mpr ((h.channel c).hold (hk.hold hh))
  · rw [hk.holdSerial]
    exact fun n hn => (h.channel c).begun n ((hends c n).mp hn)
  · intro x hx
    obtain ⟨hvalid, hlive, htag⟩ := hslots c hc x hx
    exact ⟨hvalid, l, htied, hlive, htag⟩
  · exact fun hp => ⟨l, htied, hparking c hc hp⟩
  · exact fun ho => ⟨l, htied, houtside c hc ho⟩

theorem unexpired_iff {l : LeaseId} {w : Event → Prop} {e : Event} (he : e.isExpiryOf l = false) : unexpired l w e ↔ w e :=
  and_iff_left he

theorem not_unexpired_expiry (l : LeaseId) (w : Event → Prop) (k : DeadlineKind) : ¬unexpired l w (.expiry l k) := by
  rintro ⟨-, h⟩
  rw [(Event.isExpiryOf_iff ..).mpr ⟨k, rfl⟩] at h
  cases h

end Sys2Proof.Machine
end

section
/-! SUPPORT. What each operation of a channel record keeps of its laws. -/

namespace Sys2Proof

theorem ParamSet.valid_iff (ps : ParamSet) : ps.valid = true ↔ 2#16 ≤ ps.period ∧ ps.phase < ps.period := by
  simp [ParamSet.valid]

end Sys2Proof

namespace Sys2Proof.Machine

/-! ### Parks and lapses -/

theorem parkLevel_parkLevel (a : ParkAction) (v : Level) : parkLevel a (parkLevel a v) = parkLevel a v := by
  cases a <;> rfl

theorem Channel.counting_eq_false_of_parked {ch : Channel} (h : ch.state = .parked) : ch.counting = false := by
  simp [Channel.counting, h]

/-- A record PARKED under no hold, driving its park level, keeps its output law (R83). -/
theorem outputLaw_of_parked {ch : Channel} (hstate : ch.state = .parked) (hhold : ch.hold = false)
    (hlevel : parkLevel ch.parkAction ch.level = ch.level) : ch.outputLaw := by
  refine ⟨fun _ => ⟨hhold, hlevel⟩, fun hne => absurd hstate hne, fun ps _ => ⟨fun he => ?_, fun hh => ?_, fun hc => ?_⟩⟩
  · rw [hstate] at he; cases he
  · rw [hhold] at hh; cases hh
  · rw [Channel.counting_eq_false_of_parked hstate] at hc; cases hc

theorem Channel.Sound.kept_parked {h : HaltLevels} {ch : Channel} (hs : ch.Sound h) : ch.Kept h ch.parked := by
  unfold Channel.parked
  split
  · exact hs.kept
  · exact ⟨rfl, rfl, (fun hh => nomatch hh), outputLaw_of_parked rfl rfl (parkLevel_parkLevel ..), hs.valid, hs.halted,
      fun _ => rfl⟩

/-- A RUNNING record gone PARKING counts on as before (R85). -/
theorem Channel.Sound.kept_parking {h : HaltLevels} {ch : Channel} (hs : ch.Sound h) (hrun : ch.state = .running) :
    ch.Kept h { ch with state := .parking } := by
  obtain ⟨-, hactive, houtput⟩ := hs.output
  have hcounting : ({ ch with state := .parking } : Channel).counting = ch.counting := by simp [Channel.counting, hrun]
  refine ⟨rfl, rfl, id, ⟨⟨(fun hp => nomatch hp), fun _ => hactive (by rw [hrun]; decide), fun ps hps => ?_⟩, hs.valid, hs.halted,
    fun hh => ?_⟩⟩
  · obtain ⟨-, hhold, hcount⟩ := houtput ps hps
    exact ⟨(fun he => nomatch he), hhold, fun hc => hcount (hcounting.symm.trans hc)⟩
  · have hparked := hs.parked hh
    rw [hrun] at hparked
    cases hparked

theorem Channel.Sound.kept_lapsed {h : HaltLevels} {ch : Channel} (hs : ch.Sound h) (allAtOnce : Bool) :
    ch.Kept h (ch.lapsed allAtOnce) := by
  unfold Channel.lapsed
  split
  · next hrun =>
    split
    · exact hs.kept_parked
    · exact hs.kept_parking hrun
  · exact hs.kept_parked
  · exact hs.kept
  · split
    · exact hs.kept_parked
    · exact hs.kept

/-! ### Starts and counts -/

/-- Below its period, going up, a counter stands inside the period in every mode (R76, R77, R78). -/
theorem inPeriod_of_lt {ch : Channel} {ps : ParamSet} (hup : ch.direction = .up) (hlt : ch.counter < ps.period) :
    ch.inPeriod ps = true := by
  unfold Channel.inPeriod
  rw [hup]
  cases ps.mode
  · exact decide_eq_true hlt
  · exact decide_eq_true (BitVec.le_of_lt hlt)
  · exact decide_eq_true hlt

/-- A record that counts, going by its active set, keeps its output law. -/
theorem outputLaw_of_counting {ch : Channel} {ps : ParamSet} (hstate : ch.state = .running ∨ ch.state = .parking)
    (hhold : ch.hold = false) (hactive : ch.active = some ps) (hin : ch.inPeriod ps = true)
    (hlevel : ch.level = countLevel ps ch.counter) : ch.outputLaw := by
  refine ⟨fun hp => ?_, fun _ => by rw [hactive]; rfl, fun x hx => ?_⟩
  · obtain hs | hs := hstate <;> (rw [hs] at hp; cases hp)
  · obtain rfl : ps = x := Option.some.inj (hactive.symm.trans hx)
    refine ⟨fun he => ?_, fun hh => ?_, fun _ => ⟨hin, hlevel⟩⟩
    · obtain hs | hs := hstate <;> (rw [hs] at he; cases he)
    · rw [hhold] at hh; cases hh

/-- A start on a valid set of an unmarked channel (R74, R99). -/
theorem Channel.Sound.kept_started {h : HaltLevels} {ch : Channel} (hs : ch.Sound h) {ps : ParamSet} (hvalid : ps.valid = true)
    (hmark : ch.halted = false) : ch.Kept h { ch.started ps with active := some ps } := by
  obtain ⟨-, hphase⟩ := ps.valid_iff.mp hvalid
  refine ⟨rfl, rfl, (fun hh => nomatch hh), outputLaw_of_counting (.inl rfl) rfl rfl (inPeriod_of_lt rfl hphase) rfl, ?_,
    hs.halted, fun hh => ?_⟩
  · intro x hx
    cases hx
    exact hvalid
  · have hh : ch.halted = true := hh
    rw [hmark] at hh
    cases hh

theorem Channel.started_active (ch : Channel) (ps : ParamSet) (h : ch.active = some ps) :
    ch.started ps = { ch.started ps with active := some ps } := by
  rw [← h]; rfl

theorem Channel.counting_iff (ch : Channel) :
    ch.counting = true ↔ (ch.state = .running ∨ ch.state = .parking) ∧ ch.hold = false := by
  simp [Channel.counting]

theorem Channel.Sound.not_halted {h : HaltLevels} {ch : Channel} (hs : ch.Sound h) (hstate : ch.state ≠ .parked) :
    ch.halted = false := Bool.eq_false_iff.mpr fun hh => hstate (hs.parked hh)

/-- A channel that counts or is held counts on from 0 by its set (R76, R77, R81). -/
theorem Channel.Sound.kept_countedOn {h : HaltLevels} {ch : Channel} (hs : ch.Sound h) {ps : ParamSet}
    (hactive : ch.active = some ps) (hstate : ch.state = .running ∨ ch.state = .parking) : ch.Kept h (ch.countedOn ps) := by
  have hvalid := ps.valid_iff.mp (hs.valid ps hactive)
  have hpos : 0#16 < ps.period := by obtain ⟨hp, -⟩ := hvalid; bv_omega
  exact ⟨rfl, rfl, (fun hh => nomatch hh), outputLaw_of_counting hstate rfl hactive (inPeriod_of_lt rfl hpos) rfl, hs.valid,
    hs.halted, hs.parked⟩

/-- A count short of the last one steps inside the period (R76, R77, R78). -/
theorem inPeriod_nextCount {ch : Channel} {ps : ParamSet} (hvalid : 2#16 ≤ ps.period) (hin : ch.inPeriod ps = true)
    (hlast : lastCount ps ch.counter ch.direction = false) : (ch.advanced ps).inPeriod ps = true := by
  unfold Channel.inPeriod at hin
  unfold lastCount at hlast
  unfold Channel.advanced Channel.inPeriod nextCount
  cases hm : ps.mode with
  | edge | single =>
    cases hd : ch.direction with
    | down => simp [hm, hd] at hin
    | up =>
      simp only [hm, hd, decide_eq_true_iff, beq_eq_false_iff_ne] at hin hlast ⊢
      bv_omega
  | centre =>
    cases hd : ch.direction with
    | down =>
      simp only [hm, hd, Bool.and_eq_true, decide_eq_true_iff, beq_self_eq_true, Bool.true_and, beq_eq_false_iff_ne] at hin hlast ⊢
      bv_omega
    | up =>
      simp only [hm, hd, decide_eq_true_iff] at hin ⊢
      by_cases htop : ch.counter = ps.period
      · simp only [htop, beq_self_eq_true, if_true, Bool.and_eq_true, decide_eq_true_iff]
        bv_omega
      · simp only [beq_iff_eq, htop, if_false, decide_eq_true_iff]
        bv_omega

theorem Channel.Sound.kept_advanced {h : HaltLevels} {ch : Channel} (hs : ch.Sound h) {ps : ParamSet}
    (hactive : ch.active = some ps) (hcounting : ch.counting = true)
    (hlast : lastCount ps ch.counter ch.direction = false) : ch.Kept h (ch.advanced ps) := by
  obtain ⟨hstate, hhold⟩ := ch.counting_iff.mp hcounting
  obtain ⟨-, -, houtput⟩ := hs.output
  obtain ⟨hin, -⟩ := (houtput ps hactive).2.2 hcounting
  obtain ⟨hperiod, -⟩ := ps.valid_iff.mp (hs.valid ps hactive)
  exact ⟨rfl, rfl, id, outputLaw_of_counting hstate hhold hactive (inPeriod_nextCount hperiod hin hlast) rfl, hs.valid,
    hs.halted, hs.parked⟩

/-- A SINGLE channel that is RUNNING goes ENDED (R78, R82). -/
theorem Channel.Sound.kept_endedSingle {h : HaltLevels} {ch : Channel} (hs : ch.Sound h) {ps : ParamSet}
    (hactive : ch.active = some ps) (hmode : ps.mode = .single) (hstate : ch.state ≠ .parked) :
    ch.Kept h (ch.endedSingle ps) := by
  have hmark := hs.not_halted hstate
  refine ⟨rfl, rfl, (fun hh => nomatch hh), ⟨(fun hp => nomatch hp), fun _ => by rw [Channel.endedSingle, hactive]; rfl,
    fun x hx => ?_⟩, hs.valid, hs.halted, fun hh => ?_⟩
  · obtain rfl : ps = x := Option.some.inj (hactive.symm.trans hx)
    exact ⟨fun _ => ⟨hmode, rfl, rfl, rfl, rfl⟩, (fun hh => nomatch hh), (fun hc => nomatch hc)⟩
  · have hh : ch.halted = true := hh
    rw [hmark] at hh
    cases hh

/-- A channel that stops at a reported period end keeps its own laws, under a new hold (R80). -/
theorem Channel.Sound.heldAtEnd {h : HaltLevels} {ch : Channel} (hs : ch.Sound h) {ps : ParamSet}
    (hactive : ch.active = some ps) (hstate : ch.state = .running ∨ ch.state = .parking) : (ch.heldAtEnd ps).Sound h := by
  refine ⟨⟨fun hp => ?_, fun _ => by rw [Channel.heldAtEnd, hactive]; rfl, fun x hx => ?_⟩, hs.valid, hs.halted, hs.parked⟩
  · have hp : ch.state = .parked := hp
    obtain hs | hs := hstate <;> (rw [hs] at hp; cases hp)
  · obtain rfl : ps = x := Option.some.inj (hactive.symm.trans hx)
    refine ⟨fun he => ?_, fun _ => ⟨rfl, rfl, rfl⟩, fun hc => ?_⟩
    · have he : ch.state = .ended := he
      obtain hs | hs := hstate <;> (rw [hs] at he; cases he)
    · exact nomatch ((Channel.counting_iff _).mp hc).2

/-- A channel under a hold is RUNNING or PARKING (R80). -/
theorem Channel.Sound.state_of_hold {h : HaltLevels} {ch : Channel} (hs : ch.Sound h) (hhold : ch.hold = true) :
    ch.state = .running ∨ ch.state = .parking := by
  obtain ⟨hparked, hactive, houtput⟩ := hs.output
  cases hstate : ch.state with
  | running => exact .inl rfl
  | parking => exact .inr rfl
  | parked => exact absurd (hparked hstate).1 (by rw [hhold]; decide)
  | ended =>
    obtain ⟨ps, hps⟩ := Option.isSome_iff_exists.mp (hactive (by rw [hstate]; decide))
    exact absurd ((houtput ps hps).1 hstate).2.1 (by rw [hhold]; decide)

theorem Channel.Sound.active_of_state {h : HaltLevels} {ch : Channel} (hs : ch.Sound h) (hstate : ch.state ≠ .parked) :
    ∃ ps : ParamSet, ch.active = some ps := Option.isSome_iff_exists.mp (hs.output.2.1 hstate)

/-- A PARKED record configured drives its new park level, and is marked as its new group asks (R89, R120). -/
theorem Channel.Sound.kept_configured {h : HaltLevels} {ch : Channel} (hs : ch.Sound h) (hstate : ch.state = .parked)
    (a : ParkAction) (t : ParkTiming) (g : HaltGroup) : ch.Kept h (ch.configured h a t g) := by
  obtain ⟨hparked, -⟩ := hs.output
  exact ⟨rfl, rfl, id, outputLaw_of_parked hstate (hparked hstate).1 (parkLevel_parkLevel ..), hs.valid, rfl, fun _ => hstate⟩

/-! ### Marks -/

theorem haltCondition_put_true (g : HaltGroup) (h : HaltLevels) (line : HaltLine) :
    haltCondition g (h.put line true) = (groupHas g line || haltCondition g h) := by
  cases line <;> cases g <;> simp [haltCondition, groupHas, HaltLevels.put]

/-- A channel at an assertion: marked and parked where its condition becomes true, else as it was (R114). -/
def Channel.haltedBy (ch : Channel) (line : HaltLine) : Channel :=
  if ch.newlyHalted line then { ch.parked with halted := true } else ch

theorem Channel.Sound.haltedBy {h : HaltLevels} {ch : Channel} (hs : ch.Sound h) (line : HaltLine) :
    ch.Kept (h.put line true) (ch.haltedBy line) := by
  have hp := hs.kept_parked
  unfold Channel.haltedBy
  split
  · next hnew =>
    obtain ⟨hgroup, -⟩ := (Bool.and_eq_true _ _).mp hnew
    refine ⟨hp.lease, hp.holdSerial, hp.hold, hp.own.output, hp.own.valid, ?_, fun _ => ch.parked_state⟩
    change true = haltCondition ch.parked.haltGroup (h.put line true)
    rw [haltCondition_put_true, ch.parked_keeps.2.2.2.1, hgroup, Bool.true_or]
  · next hnew =>
    refine ⟨rfl, rfl, id, hs.output, hs.valid, ?_, hs.parked⟩
    rw [haltCondition_put_true, ← hs.halted]
    cases hg : groupHas ch.haltGroup line with
    | false => rfl
    | true => simpa [Channel.newlyHalted, hg] using hnew

/-- A channel at a release: its mark cleared where its condition is now false (R117). -/
def Channel.releasedAt (ch : Channel) (h : HaltLevels) : Channel :=
  if ch.newlyReleased h then { ch with halted := false } else ch

/-- A line released makes no condition true. -/
theorem haltCondition_put_false {g : HaltGroup} {h : HaltLevels} {line : HaltLine}
    (hc : haltCondition g (h.put line false) = true) : haltCondition g h = true := by
  cases line <;> cases g <;> simp_all [haltCondition, groupHas, HaltLevels.put]

theorem Channel.releasedAt_eq (ch : Channel) (h : HaltLevels) :
    ch.releasedAt h = { ch with halted := ch.halted && haltCondition ch.haltGroup h } := by
  unfold Channel.releasedAt Channel.newlyReleased
  cases hh : ch.halted <;> cases hc : haltCondition ch.haltGroup h <;> simp [← hh]

theorem Channel.Sound.releasedAt {h : HaltLevels} {ch : Channel} (hs : ch.Sound h) (line : HaltLine) :
    ch.Kept (h.put line false) (ch.releasedAt (h.put line false)) := by
  rw [Channel.releasedAt_eq]
  refine ⟨rfl, rfl, id, hs.output, hs.valid, ?_, fun hh => hs.parked ((Bool.and_eq_true _ _).mp hh).1⟩
  dsimp only
  cases hc : haltCondition ch.haltGroup (h.put line false) with
  | false => exact Bool.and_false _
  | true => rw [hs.halted, haltCondition_put_false hc]; rfl

end Sys2Proof.Machine
end

section
/-! SUPPORT. The operations about one lease keep the invariant. -/

namespace Sys2Proof.Machine

open Sys2Proof.Claims

/-! ### The lease rewritten: grants, lapses, completions -/

/-- A lease rewritten keeps the invariant where the new record and deadline keep their laws and suit the channels (R33, R55, R61). -/
theorem Sound.rewritten {w : Event → Prop} {s u : State} {l : LeaseId} (h : Sound w s) (hu : LocalTo l s u)
    (hkept : ∀ c : ChannelId, s.inLease l c = true → s.channels[c].Kept s.haltTaken u.channels[c]) {r : Lease}
    {d : Option Deadline} (hdefn : r.defn = s.leases[l].defn) (hrecord : r.Sound) (hpending : r.commitPending = false)
    (hkind : d.map Deadline.kind = r.state.deadlineKind) (hfits : ∀ x ∈ d, r.DeadlineFits s.now x)
    (hlapsing : r.state = .lapsing → ∃ c : ChannelId, s.inLease l c = true ∧ u.channels[c].state = .parking)
    (hparking : ∀ c : ChannelId, s.inLease l c = true → u.channels[c].state = .parking → r.state = .lapsing)
    (houtside : ∀ c : ChannelId, s.inLease l c = true →
      u.channels[c].state = .running ∨ u.channels[c].state = .ended → r.live = true) :
    Sound (unexpired l w) (rewritten u l r d) := by
  have hlease : (Claims.rewritten u l r d).leases[l] = r := rewritten_lease ..
  have hdeadline : (Claims.rewritten u l r d).deadlines[l] = d := by rw [Claims.rewritten, getElem_set_fin, if_pos rfl]
  have hl : LocalTo l s (Claims.rewritten u l r d) := hu.trans (rewritten_localTo u l (hdefn.trans hu.defn.symm) d)
  refine h.of_kept hl (fun e he => unexpired_iff he) ⟨?_, ?_, ?_, ?_, ?_, ?_⟩ hkept ?_ ?_ ?_
  · rw [hlease]; exact hrecord
  · rw [hlease, hdeadline]; exact hkind
  · rw [hlease, hdeadline, hl.now]
    exact fun x hx _ => hfits x hx
  · exact fun k hk => absurd hk (not_unexpired_expiry l w k)
  · rw [hlease]
    intro hs
    obtain ⟨c, hc, hp⟩ := hlapsing hs
    exact ⟨c, (hl.inLease l c).trans hc, hp⟩
  · rw [hlease, hpending]
    exact fun hp => nomatch hp
  · intro c hc x hx
    rw [Claims.rewritten, purgedSlots, getElem_ofFn_fin, hu.inLease, hc] at hx
    cases hx
  · rw [hlease]; exact hparking
  · rw [hlease]; exact houtside

/-- A defined lease handed on, its channels PARKED, keeps the invariant (R61). -/
theorem Sound.handedOver {w : Event → Prop} {s u : State} {l : LeaseId} (h : Sound w s) (hu : LocalTo l s u)
    (hul : u.leases[l] = s.leases[l])
    (hkept : ∀ c : ChannelId, s.inLease l c = true → s.channels[c].Kept s.haltTaken u.channels[c])
    (hparked : ∀ c : ChannelId, s.inLease l c = true → u.channels[c].state = .parked)
    (hstate : s.leases[l].state ≠ .undefined) : Sound (unexpired l w) (handedOver u l) := by
  have hr := (h.lease l).record
  obtain ⟨hkind, hfits⟩ := handedDeadline_fits hr hstate u
  have hrewritten : Sound (unexpired l w) (Claims.rewritten u l (handedOn s.leases[l]) (handedDeadline u s.leases[l])) := by
    refine h.rewritten hu hkept (handedOn_defn _) (handedOn_sound hr hstate) (handedOn_commitPending _) hkind ?_ ?_ ?_ ?_
    · rw [← hu.now]; exact hfits
    · intro hs
      obtain hs' | hs' := handedOn_state s.leases[l] <;> (rw [hs'] at hs; cases hs)
    · intro c hc hp
      rw [hparked c hc] at hp
      cases hp
    · intro c hc ho
      rw [hparked c hc] at ho
      obtain ho | ho := ho <;> cases ho
  rw [handedOver_eq, hul]
  split
  · exact hrewritten
  · exact hrewritten.post ..

theorem lapsed_parked_of_not_left {s : State} {l : LeaseId} {reason : LapseReason} (hnone : ¬LeftParking s l reason)
    {c : ChannelId} (hc : s.inLease l c = true) : (s.channels[c].lapsed (reason == .revoked)).state = .parked := by
  obtain hp | ⟨hp, -⟩ := s.channels[c].lapsed_state (reason == .revoked)
  · exact hp
  · exact absurd ⟨c, hc, hp⟩ hnone

theorem lapseTold_kept {w : Event → Prop} {s : State} (h : Sound w s) (l : LeaseId) (reason : LapseReason) (c : ChannelId)
    (hc : s.inLease l c = true) : s.channels[c].Kept s.haltTaken (lapseTold s l reason).channels[c] := by
  rw [lapseTold_channels, if_pos hc]
  exact (h.channel c).own.kept_lapsed _

/-- A lapse of a live lease keeps the invariant, and withdraws a raised expiry (R46, R55). -/
theorem Sound.lapse {w : Event → Prop} {s : State} {l : LeaseId} (h : Sound w s) (hlive : s.leases[l].live = true)
    {reason : LapseReason} (hreason : reason ≠ .reset) : Sound (unexpired l w) (s.lapse l reason) := by
  have hr := (h.lease l).record
  obtain ⟨hleft, hover⟩ := lapse_eq s l reason
  by_cases hparking : LeftParking s l reason
  · rw [hleft hparking]
    refine h.rewritten (lapseTold_localTo ..) (lapseTold_kept h l reason) rfl (lapsingRecord_sound hr hlive hreason) rfl rfl
      (fun x hx => nomatch hx) (fun _ => ?_) (fun _ _ _ => rfl) fun c hc ho => ?_
    · obtain ⟨c, hc, hp⟩ := hparking
      exact ⟨c, hc, by rw [lapseTold_channels, if_pos hc]; exact hp⟩
    · rw [lapseTold_channels, if_pos hc] at ho
      obtain hs | ⟨hs, -⟩ := s.channels[c].lapsed_state (reason == .revoked) <;>
        (rw [hs] at ho; obtain ho | ho := ho <;> cases ho)
  · rw [hover hparking]
    refine h.handedOver (lapseTold_localTo ..) (by rw [lapseTold_leases]) (lapseTold_kept h l reason) (fun c hc => ?_)
      (Lease.state_ne_undefined_of_live hlive)
    rw [lapseTold_channels, if_pos hc]
    exact lapsed_parked_of_not_left hparking hc

theorem State.lapse_events (s : State) (l : LeaseId) (reason : LapseReason) :
    (s.lapse l reason).events = withoutEvents (fun e => e.isExpiryOf l) s.events := by
  have htold : (lapseTold s l reason).events = s.events := by
    unfold lapseTold
    dsimp only
    split
    · rw [State.postHolder_events]; rfl
    · rfl
  obtain ⟨hleft, hover⟩ := lapse_eq s l reason
  by_cases hparking : LeftParking s l reason
  · rw [hleft hparking, ← htold]; rfl
  · rw [hover hparking, ← htold, handedOver_eq]
    split <;> rfl

/-- A grant of a lease that is VACANT or live, none of its channels PARKING, keeps the invariant (R33). -/
theorem Sound.grant {w : Event → Prop} {s u : State} {l : LeaseId} (h : Sound w s) (hu : LocalTo l s u)
    (hchannels : u.channels = s.channels) {p : Port} {term : Word16} {queue : List Waiter}
    (hul : u.leases[l] = { s.leases[l] with queue := queue }) (hstate : s.leases[l].state = .vacant ∨ s.leases[l].live = true)
    (hpending : s.leases[l].commitPending = false) (hterm : s.leases[l].termWithin term = true)
    (hqueue : ∀ x ∈ queue, s.leases[l].termWithin x.term = true) (hnodup : (queue.map Waiter.port).Nodup)
    (hport : ∀ x ∈ queue, x.port ≠ p) : Sound (unexpired l w) (u.grant l p term) := by
  have hr := (h.lease l).record
  have hundefined : s.leases[l].state ≠ .undefined := by
    obtain hs | hs := hstate
    · rw [hs]; decide
    · exact Lease.state_ne_undefined_of_live hs
  have hlapsing : s.leases[l].state ≠ .lapsing := by
    obtain hs | hs := hstate
    · rw [hs]; decide
    · exact Lease.state_ne_lapsing_of_live hs
  obtain ⟨d, hdefn, hrange⟩ := hr.defn_of_state hundefined
  rw [grant_eq, hul]
  refine Sound.post (h.rewritten (r := grantedRecord { s.leases[l] with queue := queue } p term queue) hu (fun c _ => ?_) rfl
    (grantedRecord_sound (r := { s.leases[l] with queue := queue }) hdefn hrange hterm hqueue hnodup hport) hpending rfl
    (fun x hx => ?_) (fun hs => nomatch hs) (fun c hc hp => ?_) fun _ _ _ => rfl) ..
  · rw [hchannels]; exact (h.channel c).own.kept
  · cases hx
    rw [State.tickAfter, hu.now]
    exact term_deadline_fits (r := grantedRecord _ p term queue) hdefn hrange rfl hterm s.now
  · rw [hchannels] at hp
    exact absurd (h.lapsing_of_parking hc hp) hlapsing

/-- An acquisition of a VACANT lease keeps the invariant (R28). -/
theorem Sound.acquired {w : Event → Prop} {s : State} {l : LeaseId} (h : Sound w s) (hstate : s.leases[l].state = .vacant)
    {term : Word16} (hterm : s.leases[l].termWithin term = true) (p : Port) : Sound (unexpired l w) (s.grant l p term) := by
  obtain ⟨-, -, hq, hpending⟩ := (h.lease l).record.of_vacant hstate
  refine h.grant (.refl l s) rfl (queue := []) (by rw [← hq]) (.inl hstate) hpending hterm ?_ List.nodup_nil ?_ <;>
    exact fun x hx => nomatch hx

theorem Lease.targetEntry_mem {r : Lease} {target : Target} {e : Waiter} (h : r.targetEntry target = some e) : e ∈ r.queue := by
  cases target with
  | port p => exact List.mem_of_find?_eq_some h
  | next => exact List.mem_of_head? h

/-- A transfer of a live lease with no pending commit keeps the invariant (R39). -/
theorem Sound.transferred {w : Event → Prop} {s : State} {l : LeaseId} (h : Sound w s) (hlive : s.leases[l].live = true)
    (hpending : s.leases[l].commitPending = false) {e : Waiter} (he : e ∈ s.leases[l].queue) :
    Sound (unexpired l w) (s.transferred l e) := by
  obtain ⟨-, -, hqueue, -⟩ := (h.lease l).record.value
  obtain ⟨hnodup, -⟩ := (h.lease l).record.queue
  have hsub : (s.leases[l].queueWithout e.port).Sublist s.leases[l].queue := List.filter_sublist
  refine h.grant (s.modLease_localTo l _ rfl) rfl (queue := s.leases[l].queueWithout e.port)
    (by rw [State.modLease_get, if_pos rfl]) (.inr hlive) hpending (hqueue e he) (fun x hx => hqueue x (hsub.subset hx))
    (hnodup.sublist (hsub.map _)) fun x hx => ?_
  simpa using (List.mem_filter.mp hx).2

/-! ### The record or the deadline alone -/

/-- A live record and its deadline set anew, the epoch, the definition and the pending commit kept (R50, R52). -/
theorem Sound.retimed {w : Event → Prop} {s : State} {l : LeaseId} (h : Sound w s) (hlive : s.leases[l].live = true)
    {f : Lease → Lease} (hdefn : (f s.leases[l]).defn = s.leases[l].defn) (hepoch : (f s.leases[l]).epoch = s.leases[l].epoch)
    (hcommit : (f s.leases[l]).commitPending = s.leases[l].commitPending) (hrecord : (f s.leases[l]).Sound)
    (hlive' : (f s.leases[l]).live = true) {d : Deadline} (hkind : some d.kind = (f s.leases[l]).state.deadlineKind)
    (hfits : (f s.leases[l]).DeadlineFits s.now d) : Sound (unexpired l w) ((s.modLease l f).setDeadline l (some d)) := by
  have hlease : ((s.modLease l f).setDeadline l (some d)).leases[l] = f s.leases[l] := by
    rw [State.setDeadline_leases, State.modLease_get, if_pos rfl]
  have hdeadline : ((s.modLease l f).setDeadline l (some d)).deadlines[l] = some d := by
    rw [State.setDeadline_get, if_pos rfl]
  have hl : LocalTo l s ((s.modLease l f).setDeadline l (some d)) :=
    (s.modLease_localTo l f hdefn).trans (State.setDeadline_localTo ..)
  have hin (c : ChannelId) := hl.inLease l c
  refine h.of_kept hl (fun e he => unexpired_iff he) ⟨?_, ?_, ?_, ?_, ?_, ?_⟩ (fun c _ => (h.channel c).own.kept) ?_ ?_ ?_
  · rw [hlease]; exact hrecord
  · rw [hlease, hdeadline]; exact hkind
  · rw [hlease, hdeadline]
    intro x hx _
    cases hx
    exact hfits
  · exact fun k hk => absurd hk (not_unexpired_expiry l w k)
  · rw [hlease]
    exact fun hs => absurd hs (Lease.state_ne_lapsing_of_live hlive')
  · rw [hlease, hcommit]
    intro hp
    obtain ⟨hunhalted, ⟨c, hlead, hrun⟩, ⟨c', hc', hstaged⟩⟩ := (h.lease l).commit hp
    refine ⟨fun x hx => hunhalted x ((hin x).symm.trans hx), ⟨c, ?_, hrun⟩, ⟨c', (hin c').trans hc', hstaged⟩⟩
    rw [hlease, Lease.hasLead, hdefn]
    exact hlead
  · intro c hc x hx
    obtain ⟨hvalid, -, htag⟩ := h.staged_of_inLease hc hx
    rw [hlease, hepoch]
    exact ⟨hvalid, hlive', htag⟩
  · intro c hc hp
    exact absurd (h.lapsing_of_parking hc hp) (Lease.state_ne_lapsing_of_live hlive)
  · rw [hlease]
    exact fun _ _ _ => hlive'

/-- A RENEW by the holder keeps the invariant (R50). -/
theorem Sound.renewed {w : Event → Prop} {s : State} {l : LeaseId} (h : Sound w s) (hlive : s.leases[l].live = true)
    {newTerm : Word16} (hterm : newTerm ≠ 0 → s.leases[l].termWithin newTerm = true) :
    Sound (unexpired l w) (s.renewed l newTerm) := by
  have hr := (h.lease l).record
  obtain ⟨d, hdefn, hrange⟩ := hr.defn_of_state (Lease.state_ne_undefined_of_live hlive)
  have hwithin : s.leases[l].termWithin (s.leases[l].renewedTerm newTerm) = true := by
    by_cases hz : newTerm = 0
    · subst hz
      obtain ⟨-, -, hpresent, -⟩ := hr.presence
      obtain ⟨term, hsome⟩ := Option.isSome_iff_exists.mp (hpresent hlive).2
      obtain ⟨-, hall, -⟩ := hr.value
      rw [hsome, Option.all_some] at hall
      rw [Lease.renewedTerm_zero, hsome]
      exact hall
    · rw [Lease.renewedTerm_of_ne_zero _ hz]; exact hterm hz
  exact h.retimed hlive rfl rfl rfl (live_record_sound (term := some (s.leases[l].renewedTerm newTerm)) hr hlive (.inl rfl) rfl hwithin) rfl rfl
    (term_deadline_fits (r := { s.leases[l] with state := .held, term := some _ }) hdefn hrange rfl hwithin s.now)

/-- A lease whose term has ended and that has grace enters GRACE (R52). -/
theorem Sound.enterGrace {w : Event → Prop} {s : State} {l : LeaseId} (h : Sound w s) (hlive : s.leases[l].live = true)
    (hgrace : s.leases[l].graceTicks ≠ 0) : Sound (unexpired l w) (s.enterGrace l) := by
  have hr := (h.lease l).record
  obtain ⟨d, hdefn, -⟩ := hr.defn_of_state (Lease.state_ne_undefined_of_live hlive)
  obtain ⟨-, -, hpresent, -⟩ := hr.presence
  have hticks : s.leases[l].graceTicks = d.grace := by rw [Lease.graceTicks, hdefn]; rfl
  refine Sound.postHolder (h.retimed hlive rfl rfl rfl
    (live_record_sound hr hlive (.inr rfl) (hpresent hlive).2 hr.value.2.1) rfl rfl ?_) ..
  rw [State.tickAfter, hticks]
  exact grace_deadline_fits (r := { s.leases[l] with state := .grace }) hdefn rfl (by rwa [← hticks]) s.now

/-- A TERM expiry taken keeps the invariant (R52). -/
theorem Sound.termExpired {w : Event → Prop} {s : State} {l : LeaseId} (h : Sound w s) (hlive : s.leases[l].live = true) :
    Sound (unexpired l w) (s.termExpired l) := by
  unfold State.termExpired
  split
  · exact h.lapse hlive (by decide)
  · next hgrace => exact h.enterGrace hlive hgrace

theorem State.termExpired_events (s : State) (l : LeaseId) :
    (s.termExpired l).events = withoutEvents (fun e => e.isExpiryOf l) s.events := by
  unfold State.termExpired
  split
  · exact s.lapse_events l _
  · rw [State.enterGrace, State.postHolder_events]; rfl

/-- A record changed in its queue, or in its pending commit where that stands (R24, R98). -/
theorem Sound.modLease {w : Event → Prop} {s : State} {l : LeaseId} (h : Sound w s) {f : Lease → Lease}
    (hrecord : (f s.leases[l]).Sound) (hstate : (f s.leases[l]).state = s.leases[l].state)
    (hdefn : (f s.leases[l]).defn = s.leases[l].defn) (hepoch : (f s.leases[l]).epoch = s.leases[l].epoch)
    (hcommit : (f s.leases[l]).commitPending = true → CommitStands s l) : Sound w (s.modLease l f) := by
  have hlease : (s.modLease l f).leases[l] = f s.leases[l] := by rw [State.modLease_get, if_pos rfl]
  have hl : LocalTo l s (s.modLease l f) := s.modLease_localTo l f hdefn
  have hin (c : ChannelId) := hl.inLease l c
  have hlive : (f s.leases[l]).live = s.leases[l].live := by rw [Lease.live, Lease.live, hstate]
  refine h.of_kept hl (fun _ _ => .rfl) ⟨?_, ?_, ?_, (h.lease l).expiry, ?_, ?_⟩ (fun c _ => (h.channel c).own.kept) ?_ ?_ ?_
  · rw [hlease]; exact hrecord
  · rw [hlease, hstate]; exact (h.lease l).kind
  · rw [hlease]
    intro d hd hw
    have hfits := (h.lease l).ahead d hd hw
    rwa [Lease.DeadlineFits, Lease.longestAhead, hstate, hdefn]
  · rw [hlease, hstate]
    intro hs
    obtain ⟨c, hc, hp⟩ := (h.lease l).parking hs
    exact ⟨c, (hin c).trans hc, hp⟩
  · rw [hlease]
    intro hp
    obtain ⟨hunhalted, ⟨c, hlead, hrun⟩, ⟨c', hc', hstaged⟩⟩ := hcommit hp
    refine ⟨fun x hx => hunhalted x ((hin x).symm.trans hx), ⟨c, ?_, hrun⟩, ⟨c', (hin c').trans hc', hstaged⟩⟩
    rw [hlease, Lease.hasLead, hdefn]
    exact hlead
  · intro c hc x hx
    rw [hlease, hlive, hepoch]
    exact h.staged_of_inLease hc hx
  · rw [hlease, hstate]
    exact fun c hc => h.lapsing_of_parking hc
  · rw [hlease, hlive]
    exact fun c hc => h.live_of_outside hc

theorem Sound.withoutEntry {w : Event → Prop} {s : State} (h : Sound w s) (l : LeaseId) (p : Port) :
    Sound w (s.modLease l fun r => { r with queue := r.queueWithout p }) :=
  h.modLease (queueWithout_sound (h.lease l).record p) rfl rfl rfl (h.lease l).commit

/-! ### Channels and slots -/

/-- The channels of a live lease go on, with the lease's record and slots: what is left to show is its pending commit. -/
theorem Sound.liveChannels {w : Event → Prop} {s t : State} {l : LeaseId} (h : Sound w s) (hl : LocalTo l s t)
    (hlive : s.leases[l].live = true) (hlease : t.leases[l] = s.leases[l]) (hdeadline : t.deadlines[l] = s.deadlines[l])
    (hkept : ∀ c : ChannelId, s.inLease l c = true → s.channels[c].Kept s.haltTaken t.channels[c])
    (hparking : ∀ c : ChannelId, s.inLease l c = true → t.channels[c].state ≠ .parking)
    (hslots : ∀ c : ChannelId, s.inLease l c = true → ∀ x ∈ t.slots[c],
      x.params.valid = true ∧ x.tag = s.leases[l].epoch)
    (hcommit : s.leases[l].commitPending = true → CommitStands t l) : Sound w t := by
  refine h.of_kept hl (fun _ _ => .rfl) ⟨?_, ?_, ?_, ?_, ?_, ?_⟩ hkept ?_ ?_ ?_
  · rw [hlease]; exact (h.lease l).record
  · rw [hlease, hdeadline]; exact (h.lease l).kind
  · rw [hlease, hdeadline, hl.now]; exact (h.lease l).ahead
  · rw [hdeadline]; exact (h.lease l).expiry
  · rw [hlease]
    exact fun hs => absurd hs (Lease.state_ne_lapsing_of_live hlive)
  · rw [hlease]; exact hcommit
  · intro c hc x hx
    obtain ⟨hvalid, htag⟩ := hslots c hc x hx
    rw [hlease]
    exact ⟨hvalid, hlive, htag⟩
  · exact fun c hc hp => absurd hp (hparking c hc)
  · rw [hlease]
    exact fun _ _ _ => hlive

theorem Sound.not_parking_of_live {w : Event → Prop} {s : State} {l : LeaseId} (h : Sound w s) (hlive : s.leases[l].live = true)
    {c : ChannelId} (hc : s.inLease l c = true) : s.channels[c].state ≠ .parking := fun hp =>
  Lease.state_ne_lapsing_of_live hlive (h.lapsing_of_parking hc hp)

/-- The execution of a commit of a live lease keeps the invariant, over channels that have gone on unmarked (R99, R102). -/
theorem Sound.executeCommit {w : Event → Prop} {s u : State} {l : LeaseId} (h : Sound w s) (hu : LocalTo l s u)
    (hlive : s.leases[l].live = true) (hul : u.leases[l] = s.leases[l]) (hud : u.deadlines[l] = s.deadlines[l])
    (hus : u.slots = s.slots)
    (hkept : ∀ c : ChannelId, s.inLease l c = true → s.channels[c].Kept s.haltTaken u.channels[c])
    (hparking : ∀ c : ChannelId, s.inLease l c = true → u.channels[c].state ≠ .parking)
    (hunhalted : ∀ c : ChannelId, s.inLease l c = true → u.channels[c].halted = false) : Sound w (u.executeCommit l) := by
  have hr := (h.lease l).record
  have hl : LocalTo l s (u.executeCommit l) := hu.trans (u.executeCommit_localTo l)
  have hlease : (u.executeCommit l).leases[l] = { s.leases[l] with commitPending := false } := by
    rw [State.executeCommit_leases, getElem_set_fin, if_pos rfl, hul]
  have hchannel (c : ChannelId) (hc : s.inLease l c = true) :
      (u.executeCommit l).channels[c] =
        s.slots[c].elim u.channels[c] fun x => { u.channels[c].started x.params with active := some x.params } := by
    rw [State.executeCommit_channels, startStaged_get, hu.inLease, if_pos hc, hus]
  have hslot (c : ChannelId) (hc : s.inLease l c = true) : (u.executeCommit l).slots[c] = none := by
    rw [State.executeCommit_slots_get, hu.inLease, if_pos hc]
  have hlive' : (u.executeCommit l).leases[l].live = true := by rw [hlease]; exact hlive
  refine h.of_kept hl (fun _ _ => .rfl) ⟨?_, ?_, ?_, ?_, ?_, ?_⟩ (fun c hc => ?_) (fun c hc x hx => ?_) (fun c hc hp => ?_)
    fun _ _ _ => hlive'
  · rw [hlease]
    exact commitPending_sound hr fun hb => nomatch hb
  · rw [hlease, State.executeCommit_deadlines, hud]; exact (h.lease l).kind
  · rw [hlease, State.executeCommit_deadlines, hud, hl.now]; exact (h.lease l).ahead
  · rw [State.executeCommit_deadlines, hud]; exact (h.lease l).expiry
  · exact fun hs => absurd hs (Lease.state_ne_lapsing_of_live hlive')
  · rw [hlease]
    exact fun hp => nomatch hp
  · rw [hchannel c hc]
    cases hx : s.slots[c] with
    | none => exact hkept c hc
    | some x =>
      obtain ⟨hvalid, -⟩ := h.staged_of_inLease hc (x := x) hx
      exact (hkept c hc).trans ((hkept c hc).own.kept_started hvalid (hunhalted c hc))
  · rw [hslot c hc] at hx
    cases hx
  · rw [hchannel c hc] at hp
    cases hx : s.slots[c] with
    | none =>
      rw [hx] at hp
      exact absurd hp (hparking c hc)
    | some x =>
      rw [hx] at hp
      cases hp

/-- A commit made pending, or executed, over an unmarked lease with something staged (R97). -/
theorem Sound.committed {w : Event → Prop} {s : State} {l : LeaseId} (h : Sound w s) (hlive : s.leases[l].live = true)
    (hstaged : s.countStaged l ≠ 0) (hhalted : s.anyHalted l = false) : Sound w (s.committed l) := by
  have hunhalted := (s.anyHalted_eq_false_iff l).mp hhalted
  unfold State.committed
  split
  · next hlead =>
    exact h.modLease (commitPending_sound (h.lease l).record fun _ => hlive) rfl rfl rfl fun _ =>
      ⟨hunhalted, (s.leadRunning_iff l).mp hlead, (s.countStaged_ne_zero_iff l).mp hstaged⟩
  · exact h.executeCommit (.refl l s) hlive rfl rfl rfl (fun c _ => (h.channel c).own.kept)
      (fun c hc => h.not_parking_of_live hlive hc) hunhalted

theorem State.resumed_get (s : State) (l : LeaseId) (c : ChannelId) (hc : s.inLease l c = true) :
    (s.resumed l).channels[c] =
      if s.channels[c].resumable then s.channels[c].active.elim s.channels[c] fun ps => s.channels[c].started ps
      else s.channels[c] := by
  rw [State.resumed, State.mapChannels_get, hc, Bool.true_and]
  cases s.channels[c].resumable <;> cases s.channels[c].active <;> rfl

/-- A RESUME of unmarked channels keeps the invariant (R109). -/
theorem Sound.resumed {w : Event → Prop} {s : State} {l : LeaseId} (h : Sound w s) (hlive : s.leases[l].live = true)
    (hpending : s.leases[l].commitPending = false)
    (hunhalted : ∀ c : ChannelId, s.inLease l c = true → s.channels[c].resumable = true → s.channels[c].halted = false) :
    Sound w (s.resumed l) := by
  refine h.liveChannels (s.resumed_localTo l) hlive (by rw [State.resumed, State.mapChannels_leases])
    (by rw [State.resumed, State.mapChannels_deadlines]) (fun c hc => ?_) (fun c hc => ?_) (fun c hc x hx => ?_)
    fun hp => absurd hp (by rw [hpending]; decide)
  · rw [State.resumed_get s l c hc]
    split
    · next hres =>
      cases hactive : s.channels[c].active with
      | none => exact (h.channel c).own.kept
      | some ps =>
        rw [Option.elim_some, Channel.started_active _ ps hactive]
        exact (h.channel c).own.kept_started ((h.channel c).own.valid ps hactive) (hunhalted c hc hres)
    · exact (h.channel c).own.kept
  · rw [State.resumed_get s l c hc]
    split
    · cases s.channels[c].active with
      | none => exact h.not_parking_of_live hlive hc
      | some ps => exact fun hp => nomatch hp
    · exact h.not_parking_of_live hlive hc
  · rw [State.resumed, State.mapChannels_slots] at hx
    obtain ⟨hvalid, -, htag⟩ := h.staged_of_inLease hc hx
    exact ⟨hvalid, htag⟩

theorem State.parkSet_get (s : State) (set : ChannelSet) (c : ChannelId) :
    (s.parkSet set).channels[c] = if set.getLsbD c.val then s.channels[c].parked else s.channels[c] := by
  rw [State.parkSet, State.mapChannels_get]

theorem State.parkCommits_iff (s : State) (l : LeaseId) (set : ChannelSet) :
    s.parkCommits l set = true ↔
      s.leases[l].commitPending = true ∧ ∃ c : ChannelId, set.getLsbD c.val = true ∧ s.leases[l].hasLead c = true := by
  simp [State.parkCommits, List.any_eq_true, -Fin.getElem_fin]

/-- A PARK of channels of the lease keeps the invariant: a pending commit whose lead is listed executes, another stands on (R102,
R111). -/
theorem Sound.parkListed {w : Event → Prop} {s : State} {l : LeaseId} (h : Sound w s) (hlive : s.leases[l].live = true)
    {set : ChannelSet} (hin : ∀ c : ChannelId, set.getLsbD c.val = true → s.inLease l c = true) :
    Sound w (s.parkListed l set) := by
  have hl := s.parkSet_localTo hin
  have hslots : (s.parkSet set).slots = s.slots := by rw [State.parkSet, State.mapChannels_slots]
  have hdeadlines : (s.parkSet set).deadlines = s.deadlines := by rw [State.parkSet, State.mapChannels_deadlines]
  have hkept (c : ChannelId) : s.channels[c].Kept s.haltTaken (s.parkSet set).channels[c] := by
    rw [State.parkSet_get]
    split
    · exact (h.channel c).own.kept_parked
    · exact (h.channel c).own.kept
  have hparking (c : ChannelId) (hc : s.inLease l c = true) : (s.parkSet set).channels[c].state ≠ .parking := by
    rw [State.parkSet_get]
    split
    · rw [Channel.parked_state]; decide
    · exact h.not_parking_of_live hlive hc
  have hmark (c : ChannelId) : (s.parkSet set).channels[c].halted = s.channels[c].halted := by
    rw [State.parkSet_get]
    split
    · exact s.channels[c].parked_keeps.2.2.2.2.1
    · rfl
  unfold State.parkListed
  split
  · next hcommits =>
    obtain ⟨hpending, -⟩ := (s.parkCommits_iff l set).mp hcommits
    have hunhalted := ((h.lease l).commit hpending).unhalted
    exact h.executeCommit hl hlive (by rw [State.parkSet_leases]) (by rw [hdeadlines]) hslots (fun c _ => hkept c) hparking
      fun c hc => (hmark c).trans (hunhalted c hc)
  · next hcommits =>
    refine h.liveChannels hl hlive (by rw [State.parkSet_leases]) (by rw [hdeadlines]) (fun c _ => hkept c) hparking
      (fun c hc x hx => ?_) fun hpending => ?_
    · rw [hslots] at hx
      obtain ⟨hvalid, -, htag⟩ := h.staged_of_inLease hc hx
      exact ⟨hvalid, htag⟩
    · obtain ⟨hunhalted, ⟨c, hlead, hrun⟩, ⟨c', hc', hstaged⟩⟩ := (h.lease l).commit hpending
      refine ⟨fun x hx => (hmark x).trans (hunhalted x ((hl.inLease l x).symm.trans hx)), ⟨c, ?_, ?_⟩,
        ⟨c', (hl.inLease l c').trans hc', by rw [hslots]; exact hstaged⟩⟩
      · rw [State.parkSet_leases]; exact hlead
      · rw [State.parkSet_get, if_neg, hrun]
        exact fun hlisted => hcommits ((s.parkCommits_iff l set).mpr ⟨hpending, c, hlisted, hlead⟩)

/-- A slot of a live lease with no pending commit written with a valid set of the current epoch, or emptied (R94, R95). -/
theorem Sound.setSlot {w : Event → Prop} {s : State} {l : LeaseId} {c : ChannelId} (h : Sound w s)
    (hlive : s.leases[l].live = true) (hin : s.inLease l c = true) (hpending : s.leases[l].commitPending = false)
    {x : Option StagedSet} (hx : ∀ y ∈ x, y.params.valid = true ∧ y.tag = s.leases[l].epoch) : Sound w (s.setSlot c x) := by
  refine h.liveChannels (s.setSlot_localTo hin x) hlive rfl rfl (fun c _ => (h.channel c).own.kept)
    (fun c hc => h.not_parking_of_live hlive hc) (fun c' hc' y hy => ?_) fun hp => absurd hp (by rw [hpending]; decide)
  rw [State.setSlot_get] at hy
  split at hy
  · exact hx y hy
  · obtain ⟨hvalid, -, htag⟩ := h.staged_of_inLease hc' hy
    exact ⟨hvalid, htag⟩

/-- A channel's record goes on in the same state: whatever its lease, the invariant stands (R70, R76 to R78). -/
theorem Sound.modChannel {w : Event → Prop} {s : State} {c : ChannelId} (h : Sound w s) {f : Channel → Channel}
    (hkept : s.channels[c].Kept s.haltTaken (f s.channels[c])) (hstate : (f s.channels[c]).state = s.channels[c].state)
    (hmark : (f s.channels[c]).halted = s.channels[c].halted) {l : LeaseId} (hin : s.inLease l c = true) :
    Sound w (s.modChannel c f) := by
  have hget (c' : ChannelId) : (s.modChannel c f).channels[c'] = if c' = c then f s.channels[c] else s.channels[c'] :=
    s.modChannel_get c c' f
  have hsame (c' : ChannelId) : (s.modChannel c f).channels[c'].state = s.channels[c'].state ∧
      (s.modChannel c f).channels[c'].halted = s.channels[c'].halted := by
    rw [hget]
    split
    · next heq => subst heq; exact ⟨hstate, hmark⟩
    · exact ⟨rfl, rfl⟩
  refine h.of_kept (s.modChannel_localTo hin f) (fun _ _ => .rfl)
    (.of_same h rfl rfl rfl (fun _ => .rfl) fun c' _ => ⟨(hsame c').1, (hsame c').2, rfl⟩) (fun c' _ => ?_)
    (fun c' hc' x hx => h.staged_of_inLease hc' hx) (fun c' hc' hp => ?_) fun c' hc' ho => ?_
  · rw [hget]
    split
    · next heq => subst heq; exact hkept
    · exact (h.channel c').own.kept
  · rw [(hsame c').1] at hp
    exact h.lapsing_of_parking hc' hp
  · rw [(hsame c').1] at ho
    exact h.live_of_outside hc' ho

/-- A channel that is not PARKED is in a lease, which is live or LAPSING (R58, R87). -/
theorem Sound.exists_lease {w : Event → Prop} {s : State} {c : ChannelId} (h : Sound w s) (hstate : s.channels[c].state ≠ .parked) :
    ∃ l : LeaseId, s.inLease l c = true := by
  have hout : s.channels[c].lease ≠ none := fun hl => hstate (h.idle_of_no_lease hl).1
  obtain ⟨l, hl⟩ := Option.ne_none_iff_exists'.mp hout
  exact ⟨l, h.inLease_of_lease hl⟩

/-- COUNT keeps the invariant (R71, R76, R77). -/
theorem Sound.counted {w : Event → Prop} {s : State} (h : Sound w s) (c : ChannelId) : Sound w (s.counted c) := by
  unfold State.counted
  split
  · next ps hactive =>
    by_cases hcounting : s.channels[c].counting = true
    · have hstate := ((Channel.counting_iff _).mp hcounting).1
      obtain ⟨l, hin⟩ := h.exists_lease (c := c) (by obtain hs | hs := hstate <;> (rw [hs]; decide))
      rw [if_pos hcounting]
      split_ifs with hlast
      · exact h
      · exact h.modChannel ((h.channel c).own.kept_countedOn hactive hstate) rfl rfl hin
      · exact h.modChannel ((h.channel c).own.kept_advanced hactive hcounting (Bool.eq_false_iff.mpr hlast)) rfl rfl hin
    · rw [if_neg hcounting]; exact h
  · exact h

end Sys2Proof.Machine
end

section
/-! SUPPORT. The takes and the ends of counts keep the invariant: ticks, expiries, period ends. -/

namespace Sys2Proof.Machine

open Sys2Proof.Claims

/-! ### Other events -/

/-- Of the waiting events the invariant reads the expiries, and the period ends of holds that stand. -/
theorem Sound.of_waits {w w' : Event → Prop} {s : State} (h : Sound w s)
    (hexpiry : ∀ (l : LeaseId) (k : DeadlineKind), w' (.expiry l k) ↔ w (.expiry l k))
    (hend : ∀ (c : ChannelId) (n : Nat), w' (.periodEnd c n) → w (.periodEnd c n))
    (hhold : ∀ c : ChannelId, s.channels[c].hold = true → w (.periodEnd c s.channels[c].holdSerial) →
      w' (.periodEnd c s.channels[c].holdSerial)) : Sound w' s where
  tie := h.tie
  lease l := by
    obtain ⟨hrecord, hkind, hahead, hexp, hparking, hcommit⟩ := h.lease l
    exact ⟨hrecord, hkind, fun d hd hno => hahead d hd fun k hk => hno k ((hexpiry l k).mpr hk),
      fun k hk => hexp k ((hexpiry l k).mp hk), hparking, hcommit⟩
  channel c := by
    obtain ⟨hown, hholds, hbegun, hstaged, hparking, houtside⟩ := h.channel c
    exact ⟨hown, fun hh => hhold c hh (hholds hh), fun n hn => hbegun n (hend c n hn), hstaged, hparking, houtside⟩

theorem Sound.of_waits_iff {w w' : Event → Prop} {s : State} (h : Sound w s)
    (hexpiry : ∀ (l : LeaseId) (k : DeadlineKind), w' (.expiry l k) ↔ w (.expiry l k))
    (hend : ∀ (c : ChannelId) (n : Nat), w' (.periodEnd c n) ↔ w (.periodEnd c n)) : Sound w' s :=
  h.of_waits hexpiry (fun c n => (hend c n).mp) fun c _ => (hend c _).mpr

theorem State.waits_of_due {s : State} {e : Event} (h : e ∈ s.due) : s.waits e := by
  unfold State.due at h
  unfold State.waits
  cases he : s.events with
  | nil => rw [he] at h; cases h
  | cons b rest =>
    rw [he] at h
    exact List.mem_append_left _ h

theorem State.waits_dropDue_of_ne {s : State} {e x : Event} (hne : x ≠ e) : (s.dropDue e).waits x ↔ s.waits x :=
  ⟨(s.waits_dropDue e x).1, (s.waits_dropDue e x).2 hne⟩

/-- The events that carry no law of the outputs or of the lease table: halt changes and departures. -/
def Event.isOther : Event → Bool
  | .haltChange .. => true
  | .departure .. => true
  | _ => false

theorem Event.ne_of_isOther {e x : Event} (h : e.isOther = true) (hx : x.isOther = false) : x ≠ e := by
  rintro rfl
  rw [hx] at h
  cases h

theorem Sound.raise_other {s : State} (h : Sound s.waits s) {e : Event} (he : e.isOther = true) :
    Sound (s.raise [e]).waits (s.raise [e]) := by
  have hw {x : Event} (hx : x.isOther = false) : (s.raise [e]).waits x ↔ s.waits x := by
    rw [State.waits_raise, List.mem_singleton]
    exact or_iff_left (Event.ne_of_isOther he hx)
  refine Sound.of_waits_iff (w := s.waits) ?_ (fun _ _ => hw rfl) fun _ _ => hw rfl
  refine h.congr ?_ ?_ ?_ ?_ ?_ ?_ fun _ => .rfl <;> simp

theorem Sound.raiseHaltChange {s : State} (h : Sound s.waits s) (line : HaltLine) :
    Sound (s.raiseHaltChange line).waits (s.raiseHaltChange line) := by
  unfold State.raiseHaltChange
  split
  · exact h.raise_other rfl
  · exact h

/-- The take of a halt change or a departure withdraws nothing the invariant reads. -/
theorem Sound.dropOther {s : State} (h : Sound s.waits s) {e : Event} (he : e.isOther = true) :
    Sound (s.dropDue e).waits (s.dropDue e) :=
  (h.dropDue e).of_waits_iff (fun _ _ => State.waits_dropDue_of_ne (Event.ne_of_isOther he rfl)) fun _ _ =>
    State.waits_dropDue_of_ne (Event.ne_of_isOther he rfl)

/-! ### Ticks -/

theorem State.mem_expiriesAt {s : State} {t : Tick} {e : Event} :
    e ∈ s.expiriesAt t ↔ ∃ (l : LeaseId) (d : Deadline), s.deadlines[l] = some d ∧ d.tick = t ∧ e = .expiry l d.kind := by
  unfold State.expiriesAt
  simp only [List.mem_filterMap, mem_leaseIds, true_and]
  refine exists_congr fun l => ?_
  cases s.deadlines[l] with
  | none => simp
  | some d =>
    by_cases hd : d.tick = t
    · simp [hd, eq_comm]
    · simp [hd]

/-- One tick brings a deadline that is not reached one tick nearer (R44, R48). -/
theorem deadlineFits_succ {r : Lease} {now : Tick} {d : Deadline} (h : r.DeadlineFits now d) (hne : d.tick ≠ now + 1) :
    r.DeadlineFits (now + 1) d := by
  obtain ⟨hpos, hmax⟩ := h
  dsimp only [Lease.DeadlineFits]
  generalize r.longestAhead.setWidth 32 = longest at *
  have hnear : d.tick - (now + 1) = d.tick - now - 1 := by bv_omega
  have hstep : d.tick - now ≠ 1 := by bv_omega
  rw [hnear]
  generalize d.tick - now = ahead at *
  bv_omega

theorem Sound.tick {s : State} (h : Sound s.waits s) :
    Sound (({ s with now := s.now + 1 } : State).raise (s.expiriesAt (s.now + 1))).waits
      (({ s with now := s.now + 1 } : State).raise (s.expiriesAt (s.now + 1))) := by
  have hend (c : ChannelId) (n : Nat) : (({ s with now := s.now + 1 } : State).raise (s.expiriesAt (s.now + 1))).waits
      (.periodEnd c n) ↔ s.waits (.periodEnd c n) := by
    rw [State.waits_raise]
    refine or_iff_left fun hmem => ?_
    obtain ⟨l, d, -, -, he⟩ := State.mem_expiriesAt.mp hmem
    cases he
  refine Sound.mk (fun l c => ?_) (fun l => ?_) fun c => ?_
  · rw [State.raise_channels, State.inLease_congr (s := s) (by rw [State.raise_leases])]
    exact h.tie l c
  · obtain ⟨hrecord, hkind, hahead, hexpiry, hparking, hcommit⟩ := h.lease l
    have hin (c : ChannelId) : (({ s with now := s.now + 1 } : State).raise (s.expiriesAt (s.now + 1))).inLease l c =
        s.inLease l c := State.inLease_congr (by rw [State.raise_leases]) c
    refine ⟨?_, ?_, ?_, ?_, ?_, ?_⟩
    · rw [State.raise_leases]; exact hrecord
    · rw [State.raise_leases, State.raise_deadlines]; exact hkind
    · rw [State.raise_leases, State.raise_deadlines, State.raise_now]
      intro d hd hno
      refine deadlineFits_succ (hahead d hd fun k hk => hno k ((State.waits_raise ..).mpr (.inl hk))) fun htick => ?_
      exact hno d.kind ((State.waits_raise ..).mpr (.inr (State.mem_expiriesAt.mpr ⟨l, d, hd, htick, rfl⟩)))
    · rw [State.raise_deadlines]
      intro k hk
      obtain hk | hk := (State.waits_raise ..).mp hk
      · exact hexpiry k hk
      · obtain ⟨l', d, hd, -, he⟩ := State.mem_expiriesAt.mp hk
        cases he
        exact congrArg (Option.map Deadline.kind) hd
    · rw [State.raise_leases]
      intro hs
      obtain ⟨c, hc, hp⟩ := hparking hs
      exact ⟨c, (hin c).trans hc, by rw [State.raise_channels]; exact hp⟩
    · rw [State.raise_leases]
      intro hp
      obtain ⟨hunhalted, ⟨c, hlead, hrun⟩, ⟨c', hc', hstaged⟩⟩ := hcommit hp
      refine ⟨fun x hx => ?_, ⟨c, ?_, ?_⟩, ⟨c', (hin c').trans hc', ?_⟩⟩
      · rw [State.raise_channels]; exact hunhalted x ((hin x).symm.trans hx)
      · rw [State.raise_leases]; exact hlead
      · rw [State.raise_channels]; exact hrun
      · rw [State.raise_slots]; exact hstaged
  · refine (h.channel c).of_same ?_ ?_ ?_ (hend c) fun l _ => ?_
    · rw [State.raise_channels]
    · rw [State.raise_slots]
    · rw [State.raise_haltTaken]
    · rw [State.raise_leases]; exact ⟨rfl, rfl⟩

/-! ### Expiries -/

/-- A lease whose expiry waits is live (R46, R48). -/
theorem Sound.live_of_expiry {w : Event → Prop} {s : State} (h : Sound w s) {l : LeaseId} {k : DeadlineKind}
    (hw : w (.expiry l k)) : s.leases[l].live = true := by
  have hk := (h.lease l).kind.symm.trans ((h.lease l).expiry k hw)
  rw [Lease.live_iff]
  cases hs : s.leases[l].state with
  | held => exact .inl rfl
  | grace => exact .inr rfl
  | undefined | vacant | lapsing => rw [hs] at hk; cases hk

/-- An operation that withdraws the lease's expiries withdraws the one being taken. -/
theorem unexpired_dropDue (s : State) (l : LeaseId) (k : DeadlineKind) :
    unexpired l (s.dropDue (.expiry l k)).waits = unexpired l s.waits := by
  funext x
  refine propext (and_congr_left fun hx => State.waits_dropDue_of_ne ?_)
  rintro rfl
  exact Bool.noConfusion ((beq_self_eq_true l).symm.trans hx)

/-- The take of an expiry: what the operation keeps under the lease's other events is what is left waiting. -/
theorem Sound.of_expiry {s u : State} {l : LeaseId} {k : DeadlineKind} (h : Sound (unexpired l s.waits) u)
    (hevents : u.events = withoutEvents (fun e => e.isExpiryOf l) (s.dropDue (.expiry l k)).events) : Sound u.waits u := by
  rw [State.waits_of_withdrawn hevents, unexpired_dropDue]
  exact h

/-! ### Period ends -/

/-- PERIOD_END keeps the invariant: the new hold has its event (R80). -/
theorem Sound.periodEnded {s : State} (h : Sound s.waits s) (c : ChannelId) : Sound (s.periodEnded c).waits (s.periodEnded c) := by
  unfold State.periodEnded
  split
  swap
  · exact h
  next ps hactive =>
  split
  swap
  · exact h
  next hends =>
  simp only [Bool.and_eq_true] at hends
  obtain ⟨⟨hcounting, -⟩, -⟩ := hends
  have hstate := ((Channel.counting_iff _).mp hcounting).1
  obtain ⟨l, hin⟩ := h.exists_lease (c := c) (by obtain hs | hs := hstate <;> (rw [hs]; decide))
  have hget (c' : ChannelId) : (s.modChannel c fun ch => ch.heldAtEnd ps).channels[c'] =
      if c' = c then s.channels[c].heldAtEnd ps else s.channels[c'] := s.modChannel_get c c' _
  have hw (x : Event) : ((s.modChannel c fun ch => ch.heldAtEnd ps).raise
      [.periodEnd c (s.channels[c].holdSerial + 1)]).waits x ↔ s.waits x ∨ x = .periodEnd c (s.channels[c].holdSerial + 1) := by
    rw [State.waits_raise, List.mem_singleton]
    exact .rfl
  have hother {c' : ChannelId} (hne : c' ≠ c) (n : Nat) : ((s.modChannel c fun ch => ch.heldAtEnd ps).raise
      [.periodEnd c (s.channels[c].holdSerial + 1)]).waits (.periodEnd c' n) ↔ s.waits (.periodEnd c' n) := by
    rw [hw]
    refine or_iff_left fun he => hne ?_
    cases he
    rfl
  have hexpiry (l' : LeaseId) (k : DeadlineKind) : ((s.modChannel c fun ch => ch.heldAtEnd ps).raise
      [.periodEnd c (s.channels[c].holdSerial + 1)]).waits (.expiry l' k) ↔ s.waits (.expiry l' k) := by
    rw [hw]
    exact or_iff_left fun he => nomatch he
  have hmod : Sound ((s.modChannel c fun ch => ch.heldAtEnd ps).raise [.periodEnd c (s.channels[c].holdSerial + 1)]).waits
      (s.modChannel c fun ch => ch.heldAtEnd ps) := by
    refine h.of_localTo (s.modChannel_localTo hin _) (fun l' _ => hexpiry l') (fun c' hc' => hother ?_)
      (.of_same h rfl rfl rfl (hexpiry l) fun c' _ => ?_) (fun c' _ => ?_) fun c' hc' => ?_
    · rintro rfl
      exact Bool.noConfusion (hin.symm.trans hc')
    · rw [hget]
      split
      · next heq => subst heq; exact ⟨rfl, rfl, rfl⟩
      · exact ⟨rfl, rfl, rfl⟩
    · rw [hget]
      split
      · next heq => subst heq; rfl
      · rfl
    · by_cases heq : c' = c
      · subst heq
        obtain ⟨hown, -, hbegun, hstaged, hparking, houtside⟩ := h.channel c'
        have hself : (s.modChannel c' fun ch => ch.heldAtEnd ps).channels[c'] = s.channels[c'].heldAtEnd ps := by
          rw [hget, if_pos rfl]
        refine ⟨?_, ?_, ?_, ?_, ?_, ?_⟩ <;> rw [hself]
        · exact hown.heldAtEnd hactive hstate
        · exact fun _ => (hw _).mpr (.inr rfl)
        · intro n hn
          obtain hn | hn := (hw _).mp hn
          · exact Nat.le_succ_of_le (hbegun n hn)
          · cases hn
            exact Nat.le_refl _
        · exact hstaged
        · exact hparking
        · exact houtside
      · exact (h.channel c').of_same (by rw [hget, if_neg heq]) rfl rfl (hother heq) fun _ _ => ⟨rfl, rfl⟩
  refine hmod.congr ?_ ?_ ?_ ?_ ?_ ?_ fun _ => .rfl <;> simp

/-- The take of a period-end event after which the channel is under no hold: the other holds keep their events (R81). -/
theorem Sound.of_boundary {s u : State} {c : ChannelId} {n : Nat} (h : Sound s.waits u) (hhold : u.channels[c].hold = false)
    (hexpiry : ∀ (l : LeaseId) (k : DeadlineKind), u.waits (.expiry l k) ↔ s.waits (.expiry l k))
    (hend : ∀ (c' : ChannelId) (m : Nat), u.waits (.periodEnd c' m) ↔ (s.dropDue (.periodEnd c n)).waits (.periodEnd c' m)) :
    Sound u.waits u := by
  refine h.of_waits hexpiry (fun c' m hm => (s.waits_dropDue _ _).1 ((hend c' m).mp hm)) fun c' hc' hm => ?_
  refine (hend c' _).mpr ((s.waits_dropDue _ _).2 ?_ hm)
  intro he
  cases he
  rw [hhold] at hc'
  cases hc'

/-- An event whose hold has ended is taken with no effect (R81). -/
theorem Sound.holdEnded {s : State} (h : Sound s.waits s) {c : ChannelId} {n : Nat} (hhold : s.channels[c].underHold n = false) :
    Sound (s.dropDue (.periodEnd c n)).waits (s.dropDue (.periodEnd c n)) := by
  refine (h.dropDue _).of_waits (fun l k => State.waits_dropDue_of_ne (fun he => nomatch he))
    (fun c' m => (s.waits_dropDue _ _).1) fun c' hc' hm => (s.waits_dropDue _ _).2 ?_ hm
  rw [State.dropDue_channels] at hc' ⊢
  intro he
  obtain ⟨rfl, hn⟩ := Event.periodEnd.inj he
  rw [Channel.underHold, hc', hn, beq_self_eq_true] at hhold
  cases hhold

/-- A LAPSING lease has no deadline, and so no expiry waiting (R46, R48). -/
theorem Sound.no_expiry_of_lapsing {w : Event → Prop} {s : State} (h : Sound w s) {l : LeaseId}
    (hs : s.leases[l].state = .lapsing) (k : DeadlineKind) : ¬w (.expiry l k) := fun hw =>
  Lease.state_ne_lapsing_of_live (h.live_of_expiry hw) hs

/-- A PARKING channel that parks: its lapse completes if it was the last of its lease, and else goes on (R60, R86). -/
theorem Sound.parkingEnded {w : Event → Prop} {s : State} {l : LeaseId} {c : ChannelId} (h : Sound w s)
    (hin : s.inLease l c = true) (hparking : s.channels[c].state = .parking) :
    Sound (unexpired l w) ((s.modChannel c fun ch => ch.parked).completeIfParked l) := by
  have hlapsing := h.lapsing_of_parking hin hparking
  have hl := s.modChannel_localTo hin fun ch => ch.parked
  have hpending := (h.lease l).record.not_pending_of_lapsing hlapsing
  have hget (c' : ChannelId) : (s.modChannel c fun ch => ch.parked).channels[c'] =
      if c' = c then s.channels[c].parked else s.channels[c'] := s.modChannel_get c c' _
  have hkept (c' : ChannelId) (_ : s.inLease l c' = true) :
      s.channels[c'].Kept s.haltTaken (s.modChannel c fun ch => ch.parked).channels[c'] := by
    rw [hget]
    split
    · next heq => subst heq; exact (h.channel c').own.kept_parked
    · exact (h.channel c').own.kept
  have hstates {c' : ChannelId} (hc' : s.inLease l c' = true) :
      (s.modChannel c fun ch => ch.parked).channels[c'].state = .parking ∨
        (s.modChannel c fun ch => ch.parked).channels[c'].state = .parked := by
    rw [hget]
    split
    · exact .inr (Channel.parked_state _)
    · cases hs : s.channels[c'].state with
      | parking => exact .inl rfl
      | parked => exact .inr rfl
      | running => exact absurd (h.live_of_outside hc' (.inl hs)) fun hlv => Lease.state_ne_lapsing_of_live hlv hlapsing
      | ended => exact absurd (h.live_of_outside hc' (.inr hs)) fun hlv => Lease.state_ne_lapsing_of_live hlv hlapsing
  cases hany : (s.modChannel c fun ch => ch.parked).anyParking l with
  | true =>
    rw [completeIfParked_of_not (.inr hany)]
    obtain ⟨c', hc', hp'⟩ := (State.anyParking_iff ..).mp hany
    obtain ⟨hrecord, hkind, hahead, hexpiry, -, -⟩ := h.lease l
    refine h.of_kept hl (fun e he => unexpired_iff he) ⟨hrecord, hkind, fun d hd _ => hahead d hd (h.no_expiry_of_lapsing hlapsing),
      fun k hk => hexpiry k hk.1, fun _ => ⟨c', hc', hp'⟩, fun hp => ?_⟩ hkept
      (fun x hx y hy => h.staged_of_inLease hx hy) (fun _ _ _ => hlapsing) fun x hx ho => ?_
    · have hp : s.leases[l].commitPending = true := hp
      rw [hpending] at hp
      cases hp
    · obtain hs | hs := hstates hx <;> (rw [hs] at ho; obtain ho | ho := ho <;> cases ho)
  | false =>
    rw [completeIfParked_eq (s := s.modChannel c fun ch => ch.parked) hlapsing hpending hany]
    refine h.handedOver hl rfl hkept (fun c' hc' => (hstates hc').resolve_left fun hp => ?_) (by rw [hlapsing]; decide)
    rw [(State.anyParking_iff (s.modChannel c fun ch => ch.parked) l).mpr ⟨c', hc', hp⟩] at hany
    cases hany

/-! ### Boundaries -/

theorem Sound.postChannelHolder {w : Event → Prop} {s : State} (h : Sound w s) (c : ChannelId) (k : Post) :
    Sound w (s.postChannelHolder c k) := by
  unfold State.postChannelHolder
  split
  · exact h.postHolder ..
  · exact h

@[simp] theorem State.postChannelHolder_channels (s : State) (c : ChannelId) (k : Post) :
    (s.postChannelHolder c k).channels = s.channels := by
  unfold State.postChannelHolder
  split <;> simp

@[simp] theorem State.postChannelHolder_events (s : State) (c : ChannelId) (k : Post) :
    (s.postChannelHolder c k).events = s.events := by
  unfold State.postChannelHolder
  split <;> simp

theorem State.boundaryPassed_events (s : State) (c : ChannelId) : (s.boundaryPassed c).events = s.events := by
  unfold State.boundaryPassed
  repeat' split
  all_goals simp

theorem State.boundaryPassed_hold {s : State} {c : ChannelId} {ps : ParamSet} (h : s.channels[c].active = some ps) :
    (s.boundaryPassed c).channels[c].hold = false := by
  by_cases hmode : ps.mode = .single
  · have hpassed : s.boundaryPassed c =
        (s.modChannel c fun ch => ch.endedSingle ps).postChannelHolder c .singleEnded := by
      rw [State.boundaryPassed, h]; exact if_pos hmode
    rw [hpassed, State.postChannelHolder_channels, State.modChannel_get, if_pos rfl]
    rfl
  · have hpassed : s.boundaryPassed c = s.modChannel c fun ch => ch.countedOn ps := by
      rw [State.boundaryPassed, h]; exact if_neg hmode
    rw [hpassed, State.modChannel_get, if_pos rfl]
    rfl

/-- A RUNNING channel that leads no pending commit passes its boundary (R81, R82). -/
theorem Sound.boundaryPassed {w : Event → Prop} {s : State} {c : ChannelId} (h : Sound w s)
    (hrun : s.channels[c].state = .running)
    (hlead : ∀ l : LeaseId, s.inLease l c = true → s.leases[l].hasLead c = true → s.leases[l].commitPending = false) :
    Sound w (s.boundaryPassed c) := by
  obtain ⟨l, hin⟩ := h.exists_lease (c := c) (by rw [hrun]; decide)
  have hlive := h.live_of_outside hin (.inl hrun)
  unfold State.boundaryPassed
  split
  swap
  · exact h
  next ps hactive =>
  split
  swap
  · exact h.modChannel ((h.channel c).own.kept_countedOn hactive (.inl hrun)) rfl rfl hin
  next hmode =>
  refine Sound.postChannelHolder ?_ ..
  have hget (c' : ChannelId) : (s.modChannel c fun ch => ch.endedSingle ps).channels[c'] =
      if c' = c then s.channels[c].endedSingle ps else s.channels[c'] := s.modChannel_get c c' _
  refine h.liveChannels (s.modChannel_localTo hin _) hlive rfl rfl (fun c' _ => ?_) (fun c' hc' => ?_) (fun c' hc' x hx => ?_)
    fun hpending => ?_
  · rw [hget]
    split
    · next heq => subst heq; exact (h.channel c').own.kept_endedSingle hactive hmode (by rw [hrun]; decide)
    · exact (h.channel c').own.kept
  · rw [hget]
    split
    · exact fun hp => nomatch hp
    · exact h.not_parking_of_live hlive hc'
  · obtain ⟨hvalid, -, htag⟩ := h.staged_of_inLease hc' (x := x) hx
    exact ⟨hvalid, htag⟩
  · obtain ⟨hunhalted, ⟨x, hxlead, hxrun⟩, hstaged⟩ := (h.lease l).commit hpending
    have hne : x ≠ c := by
      rintro rfl
      rw [hlead l hin hxlead] at hpending
      cases hpending
    refine ⟨fun c' hc' => ?_, ⟨x, hxlead, by rw [hget, if_neg hne]; exact hxrun⟩, hstaged⟩
    rw [hget]
    split
    · next heq => subst heq; exact hunhalted c' hc'
    · exact hunhalted c' hc'

theorem State.leadPending_eq_some_iff {s : State} {c : ChannelId} {l : LeaseId} :
    s.leadPending c = some l ↔ LeadsPending s c l := by
  unfold State.leadPending LeadsPending
  cases s.channels[c].lease with
  | none => simp
  | some l' =>
    by_cases hp : (s.leases[l'].hasLead c && s.leases[l'].commitPending) = true
    · simp only [hp, if_true, Option.some.injEq]
      obtain ⟨h1, h2⟩ := (Bool.and_eq_true _ _).mp hp
      exact ⟨fun h => h ▸ ⟨rfl, h1, h2⟩, fun h => h.1⟩
    · dsimp only
      rw [if_neg hp]
      refine ⟨(fun h => nomatch h), fun h => ?_⟩
      obtain ⟨heq, h1, h2⟩ := h
      obtain rfl := Option.some.inj heq
      exact absurd ((Bool.and_eq_true _ _).mpr ⟨h1, h2⟩) hp

theorem State.leadPending_eq_none_iff {s : State} {c : ChannelId} :
    s.leadPending c = none ↔ ∀ l : LeaseId, ¬LeadsPending s c l := by
  rw [Option.eq_none_iff_forall_not_mem]
  exact forall_congr' fun l => not_congr State.leadPending_eq_some_iff

theorem State.executeCommit_get {s : State} {l : LeaseId} {c : ChannelId} (hin : s.inLease l c = true) :
    (s.executeCommit l).channels[c] =
      s.slots[c].elim s.channels[c] fun x => { s.channels[c].started x.params with active := some x.params } := by
  rw [State.executeCommit_channels, startStaged_get, if_pos hin]

/-- A boundary under which a pending commit stands: its channel counts on by the commit, or by its mode (R81, R100, R103). -/
theorem Sound.boundaryCommit {w : Event → Prop} {s : State} {l : LeaseId} {c : ChannelId} (h : Sound w s)
    (hrun : s.channels[c].state = .running) (hleads : LeadsPending s c l) :
    Sound w (s.boundaryCommit l c) ∧ (s.boundaryCommit l c).channels[c].hold = false ∧
      (s.boundaryCommit l c).events = s.events := by
  obtain ⟨hlease, hlead, hpending⟩ := hleads
  have hin := h.inLease_of_lease hlease
  have hlive := (h.lease l).record.live_of_commitPending hpending
  have hexecuted : Sound w (s.executeCommit l) :=
    h.executeCommit (.refl l s) hlive rfl rfl rfl (fun c _ => (h.channel c).own.kept)
      (fun c hc => h.not_parking_of_live hlive hc) ((h.lease l).commit hpending).unhalted
  unfold State.boundaryCommit
  rw [hin, Bool.and_true]
  cases hslot : s.slots[c] with
  | some x =>
    rw [Option.isSome_some, if_pos rfl]
    refine ⟨hexecuted, ?_, s.executeCommit_events l⟩
    rw [State.executeCommit_get hin, hslot]
    rfl
  | none =>
    have hself : (s.executeCommit l).channels[c] = s.channels[c] := by rw [State.executeCommit_get hin, hslot]; rfl
    obtain ⟨ps, hactive⟩ := (h.channel c).own.active_of_state (by rw [hrun]; decide)
    rw [Option.isSome_none, if_neg (by decide)]
    refine ⟨hexecuted.boundaryPassed (by rw [hself]; exact hrun) fun l' hin' _ => ?_,
      State.boundaryPassed_hold (by rw [hself]; exact hactive),
      (State.boundaryPassed_events ..).trans (s.executeCommit_events l)⟩
    have hl' : l' = l := by
      by_contra hne
      rw [(s.executeCommit_localTo l).inLease] at hin'
      exact Bool.noConfusion (hin'.symm.trans (h.not_inLease_of_ne hin hne))
    subst hl'
    rw [State.executeCommit_leases, getElem_set_fin, if_pos rfl]

/-- PERIOD_END_TAKE under a hold that stands keeps the invariant (R81). -/
theorem Sound.boundaryTaken {s : State} {c : ChannelId} {n : Nat} (h : Sound s.waits s)
    (hhold : s.channels[c].underHold n = true) :
    Sound ((s.dropDue (.periodEnd c n)).boundaryTaken c).waits ((s.dropDue (.periodEnd c n)).boundaryTaken c) := by
  have hd := h.dropDue (.periodEnd c n)
  have hexp (l : LeaseId) (k : DeadlineKind) : (s.dropDue (.periodEnd c n)).waits (.expiry l k) ↔ s.waits (.expiry l k) :=
    State.waits_dropDue_of_ne fun he => nomatch he
  have hchannels : (s.dropDue (.periodEnd c n)).channels[c] = s.channels[c] := by rw [State.dropDue_channels]
  have hheld : s.channels[c].hold = true := ((Bool.and_eq_true _ _).mp hhold).1
  unfold State.boundaryTaken
  by_cases hparking : (s.dropDue (.periodEnd c n)).channels[c].state = .parking
  · rw [if_pos hparking]
    obtain ⟨l, hin⟩ := hd.exists_lease (c := c) (by rw [hparking]; decide)
    have hl : ((s.dropDue (.periodEnd c n)).modChannel c fun ch => ch.parked).channels[c].lease = some l := by
      rw [State.modChannel_get, if_pos rfl]
      exact (Channel.parked_keeps _).1.trans (hd.lease_of_inLease hin)
    have hcomplete : ((s.dropDue (.periodEnd c n)).modChannel c fun ch => ch.parked).completeForChannel c =
        ((s.dropDue (.periodEnd c n)).modChannel c fun ch => ch.parked).completeIfParked l := by
      unfold State.completeForChannel
      rw [hl]
    rw [hcomplete]
    have hnone := hd.no_expiry_of_lapsing (hd.lapsing_of_parking hin hparking)
    have hsound := (hd.parkingEnded hin hparking).of_waits_iff (w' := s.waits) (fun l' k => ?_)
      fun c' m => (unexpired_iff rfl).symm
    · have hlocal := ((s.dropDue (.periodEnd c n)).modChannel_localTo hin fun ch => ch.parked).trans
        (State.completeIfParked_localTo _ l)
      refine Sound.of_boundary (c := c) (n := n) hsound ?_ (fun l' k => ?_) fun c' m => ?_
      · rw [State.completeIfParked_channels, State.modChannel_get, if_pos rfl, Channel.parked, hparking]
        rfl
      · obtain he | he := hlocal.events
        · rw [State.waits_congr he]; exact hexp l' k
        · rw [State.waits_of_withdrawn he]
          by_cases heq : l' = l
          · subst heq
            exact iff_of_false (not_unexpired_expiry _ _ _) (hnone k)
          · exact (unexpired_iff (e := .expiry l' k) (beq_false_of_ne heq)).trans (hexp l' k)
      · obtain he | he := hlocal.events
        · rw [State.waits_congr he]
        · rw [State.waits_of_withdrawn he]; exact unexpired_iff rfl
    · by_cases heq : l' = l
      · subst heq
        exact iff_of_false (hnone k) (not_unexpired_expiry _ _ _)
      · exact (unexpired_iff (e := .expiry l' k) (beq_false_of_ne heq)).symm
  · rw [if_neg hparking]
    have hrun : (s.dropDue (.periodEnd c n)).channels[c].state = .running :=
      ((hd.channel c).own.state_of_hold (by rw [hchannels]; exact hheld)).resolve_right hparking
    have hsettled {u : State} (hu : Sound s.waits u) (hnohold : u.channels[c].hold = false)
        (hevents : u.events = (s.dropDue (.periodEnd c n)).events) : Sound u.waits u :=
      hu.of_boundary (c := c) (n := n) hnohold (fun l k => by rw [State.waits_congr hevents]; exact hexp l k)
        fun c' m => by rw [State.waits_congr hevents]
    split
    · next l hl =>
      obtain ⟨hsound, hnohold, hevents⟩ := hd.boundaryCommit hrun (State.leadPending_eq_some_iff.mp hl)
      exact hsettled hsound hnohold hevents
    · next hnone =>
      obtain ⟨ps, hactive⟩ := (hd.channel c).own.active_of_state (by rw [hrun]; decide)
      refine hsettled (hd.boundaryPassed hrun fun l hin hlead => ?_) (State.boundaryPassed_hold hactive)
        (State.boundaryPassed_events ..)
      refine Bool.eq_false_iff.mpr fun hp => State.leadPending_eq_none_iff.mp hnone l ⟨?_, hlead, hp⟩
      exact hd.lease_of_inLease hin

end Sys2Proof.Machine
end

section
/-! SUPPORT. The requests and the departures keep the invariant. -/

namespace Sys2Proof.Machine

open Sys2Proof.Claims

/-! ### Definitions -/

/-- The record an accepted DEFINE writes (R18). -/
def definedRecord (r : Lease) (d : LeaseDef) : Lease :=
  { r with
    state := .vacant, defn := some d, holder := none, departing := false, term := none, queue := [], commitPending := false,
    reason := none }

/-- An accepted DEFINE writes the lease's record and the lease fields of its channels (R18). -/
theorem defined_eq (s : State) (l : LeaseId) (d : LeaseDef) :
    s.defined l d =
      { s with
        leases := s.leases.set l.val (definedRecord s.leases[l] d)
        deadlines := s.deadlines.set l.val none
        events := withdrawn s l
        channels := Vector.ofFn fun c : Fin 16 =>
          if d.channels.getLsbD c.val then { s.channels[c] with lease := some l } else s.channels[c] } := rfl

theorem definedRecord_sound (r : Lease) {d : LeaseDef} (hrange : d.inRange = true) : (definedRecord r d).Sound := by
  constructor <;>
    simp [definedRecord, Lease.presenceLaw, Lease.valueLaw, Lease.queueLaw, hrange, Lease.live, Lease.heldBy]

theorem State.channelTaken_eq_false_iff (s : State) (set : ChannelSet) :
    s.channelTaken set = false ↔ ∀ (l : LeaseId) (c : ChannelId), s.inLease l c = true → set.getLsbD c.val = false := by
  simp only [State.channelTaken, List.any_eq_false, mem_leaseIds, true_implies, bne_iff_ne, not_not]
  refine forall_congr' fun l => ?_
  constructor
  · intro h c hc
    have hbit : (s.leases[l].channelSet &&& set).getLsbD c.val = false := by rw [h]; exact BitVec.getLsbD_zero
    have hc : s.leases[l].channelSet.getLsbD c.val = true := hc
    rwa [BitVec.getLsbD_and, hc, Bool.true_and] at hbit
  · intro h
    refine BitVec.eq_of_getLsbD_eq fun i hi => ?_
    rw [BitVec.getLsbD_and]
    cases hc : s.leases[l].channelSet.getLsbD i with
    | false => exact BitVec.getLsbD_zero.symm
    | true => rw [h ⟨i, hi⟩ hc]; exact BitVec.getLsbD_zero.symm

theorem Sound.no_channels_of_undefined {w : Event → Prop} {s : State} (h : Sound w s) {l : LeaseId}
    (hs : s.leases[l].state = .undefined) (c : ChannelId) : s.inLease l c = false := by
  obtain ⟨hdefn, -⟩ := (h.lease l).record.presence
  rw [State.inLease, Lease.channelSet, hdefn.mpr hs]
  exact BitVec.getLsbD_zero

/-- A DEFINE of an UNDEFINED lease with free channels keeps the invariant (R17, R18). -/
theorem Sound.defined {w : Event → Prop} {s : State} {l : LeaseId} {d : LeaseDef} (h : Sound w s)
    (hstate : s.leases[l].state = .undefined) (hfree : s.channelTaken d.channels = false) (hrange : d.inRange = true) :
    Sound (unexpired l w) (s.defined l d) := by
  have hfree := (s.channelTaken_eq_false_iff d.channels).mp hfree
  have hlease (l' : LeaseId) : (s.defined l d).leases[l'] = if l' = l then definedRecord s.leases[l] d else s.leases[l'] := by
    rw [defined_eq]; exact getElem_set_fin ..
  have hdeadline (l' : LeaseId) : (s.defined l d).deadlines[l'] = if l' = l then none else s.deadlines[l'] := by
    rw [defined_eq]; exact getElem_set_fin ..
  have hchannel (c : ChannelId) : (s.defined l d).channels[c] =
      if d.channels.getLsbD c.val then { s.channels[c] with lease := some l } else s.channels[c] := by
    rw [defined_eq]; exact getElem_ofFn_fin ..
  have hslots : (s.defined l d).slots = s.slots := by rw [defined_eq]
  have hin (l' : LeaseId) (c : ChannelId) :
      (s.defined l d).inLease l' c = if l' = l then d.channels.getLsbD c.val else s.inLease l' c := by
    rw [State.inLease, hlease]
    split <;> rfl
  have hnone (c : ChannelId) (hc : d.channels.getLsbD c.val = true) : s.channels[c].lease = none := by
    refine Option.eq_none_iff_forall_not_mem.mpr fun l' hl' => ?_
    rw [hfree l' c (h.inLease_of_lease hl')] at hc
    cases hc
  refine ⟨fun l' c => ?_, fun l' => ?_, fun c => ?_⟩
  · rw [hchannel, hin]
    by_cases hc : d.channels.getLsbD c.val = true
    · rw [if_pos hc]
      by_cases heq : l' = l
      · rw [if_pos heq, heq]
        exact iff_of_true rfl hc
      · rw [if_neg heq]
        refine iff_of_false (fun he => heq (Option.some.inj he).symm) fun hl' => ?_
        rw [hfree l' c hl'] at hc
        cases hc
    · rw [if_neg hc]
      by_cases heq : l' = l
      · rw [if_pos heq, heq]
        refine iff_of_false (fun he => ?_) hc
        exact Bool.noConfusion ((h.inLease_of_lease he).symm.trans (h.no_channels_of_undefined hstate c))
      · rw [if_neg heq]; exact h.tie l' c
  · by_cases heq : l' = l
    · subst heq
      have hrecord : (s.defined l' d).leases[l'] = definedRecord s.leases[l'] d := by rw [hlease, if_pos rfl]
      have hd : (s.defined l' d).deadlines[l'] = none := by rw [hdeadline, if_pos rfl]
      refine ⟨?_, ?_, ?_, fun k hk => absurd hk (not_unexpired_expiry _ _ _), ?_, ?_⟩
      · rw [hrecord]; exact definedRecord_sound _ hrange
      · rw [hrecord, hd]; rfl
      · rw [hd]; exact fun x hx => nomatch hx
      · rw [hrecord]; exact fun hs => nomatch hs
      · rw [hrecord]; exact fun hp => nomatch hp
    · refine .of_same h (by rw [hlease, if_neg heq]) (by rw [hdeadline, if_neg heq]) rfl
        (fun k => unexpired_iff (e := .expiry l' k) (beq_false_of_ne heq)) fun c _ => ?_
      rw [hchannel, hslots]
      split <;> exact ⟨rfl, rfl, rfl⟩
  · by_cases hc : d.channels.getLsbD c.val = true
    · obtain ⟨hparked, hslot⟩ := h.idle_of_no_lease (hnone c hc)
      obtain ⟨⟨houtput, hvalid, hhalted, hmark⟩, hhold, hbegun, -, -, -⟩ := h.channel c
      have hself : (s.defined l d).channels[c] = { s.channels[c] with lease := some l } := by rw [hchannel, if_pos hc]
      refine ⟨?_, ?_, ?_, ?_, ?_, ?_⟩
      · rw [hself]; exact ⟨houtput, hvalid, hhalted, hmark⟩
      · rw [hself]; exact fun hh => ⟨hhold hh, rfl⟩
      · rw [hself]; exact fun n hn => hbegun n hn.1
      · rw [hslots, hslot]; exact fun x hx => nomatch hx
      · rw [hself]
        intro hp
        cases hparked.symm.trans hp
      · rw [hself]
        rintro (ho | ho) <;> cases hparked.symm.trans ho
    · refine (h.channel c).of_same (by rw [hchannel, if_neg hc]) (by rw [hslots]) rfl (fun n => unexpired_iff rfl) fun l' hl' => ?_
      have hne : l' ≠ l := by
        rintro rfl
        exact Bool.noConfusion ((h.inLease_of_lease hl').symm.trans (h.no_channels_of_undefined hstate c))
      rw [hlease, if_neg hne]
      exact ⟨rfl, rfl⟩

/-- An UNDEFINE of a VACANT lease keeps the invariant (R19). -/
theorem Sound.undefined {w : Event → Prop} {s : State} {l : LeaseId} (h : Sound w s) (hstate : s.leases[l].state = .vacant) :
    Sound w (s.undefined l) := by
  have hlease (l' : LeaseId) : (s.undefined l).leases[l'] =
      if l' = l then { s.leases[l] with state := .undefined, defn := none } else s.leases[l'] := by
    rw [undefined_eq]; exact getElem_set_fin ..
  have hchannel (c : ChannelId) : (s.undefined l).channels[c] =
      if s.inLease l c then { s.channels[c] with lease := none } else s.channels[c] := by
    rw [undefined_eq]; exact getElem_ofFn_fin ..
  have hdeadlines : (s.undefined l).deadlines = s.deadlines := by rw [undefined_eq]
  have hslots : (s.undefined l).slots = s.slots := by rw [undefined_eq]
  have hhalt : (s.undefined l).haltTaken = s.haltTaken := by rw [undefined_eq]
  have hin (l' : LeaseId) (c : ChannelId) : (s.undefined l).inLease l' c = if l' = l then false else s.inLease l' c := by
    rw [State.inLease, hlease]
    split
    · exact BitVec.getLsbD_zero
    · rfl
  obtain ⟨hrecord, hkind, -, hexpiry, -, -⟩ := h.lease l
  obtain ⟨hholder, hterm, hqueue, hpending⟩ := hrecord.of_vacant hstate
  have hidle : s.leases[l].live = false := by simp [Lease.live, hstate, -Fin.getElem_fin]
  refine ⟨fun l' c => ?_, fun l' => ?_, fun c => ?_⟩
  · rw [hchannel, hin]
    by_cases heq : l' = l
    · subst heq
      rw [if_pos rfl]
      cases hc : s.inLease l' c with
      | true => exact iff_of_false (fun he => nomatch he) Bool.false_ne_true
      | false => exact iff_of_false (fun he => Bool.noConfusion (hc.symm.trans (h.inLease_of_lease he))) Bool.false_ne_true
    · rw [if_neg heq]
      cases hc : s.inLease l c with
      | true =>
        exact iff_of_false (fun he => nomatch he) fun hc' => Bool.noConfusion (hc'.symm.trans (h.not_inLease_of_ne hc heq))
      | false => exact h.tie l' c
  · by_cases heq : l' = l
    · subst heq
      have hself : (s.undefined l').leases[l'] = { s.leases[l'] with state := .undefined, defn := none } := by
        rw [hlease, if_pos rfl]
      have hd : s.deadlines[l'] = none := by
        rw [hstate] at hkind
        exact Option.map_eq_none_iff.mp hkind
      obtain ⟨-, -, -, -, hdeparting, hreason⟩ := hrecord.presence
      have hdeparting : s.leases[l'].departing = false := Bool.eq_false_iff.mpr fun hd => by
        cases hstate.symm.trans (hdeparting.mp hd)
      have hreason := hreason (by rw [hstate]; decide)
      refine ⟨?_, ?_, ?_, ?_, ?_, ?_⟩
      · rw [hself]
        constructor <;>
          simp [Lease.presenceLaw, Lease.valueLaw, Lease.queueLaw, Lease.live, Lease.heldBy, hholder, hterm, hqueue, hpending,
            hdeparting, hreason, -Fin.getElem_fin]
      · rw [hself, hdeadlines, hd]; rfl
      · rw [hdeadlines, hd]; exact fun x hx => nomatch hx
      · rw [hdeadlines]; exact hexpiry
      · rw [hself]; exact fun hs => nomatch hs
      · rw [hself]
        intro hp
        cases hpending.symm.trans hp
    · refine .of_same h (by rw [hlease, if_neg heq]) (by rw [hdeadlines]) rfl (fun _ => .rfl) fun c _ => ?_
      rw [hchannel, hslots]
      split <;> exact ⟨rfl, rfl, rfl⟩
  · cases hc : s.inLease l c with
    | true =>
      have hself : (s.undefined l).channels[c] = { s.channels[c] with lease := none } := by rw [hchannel, if_pos hc]
      have hparked := h.parked_of_idle hc hidle (by rw [hstate]; decide)
      obtain ⟨⟨houtput, hvalid, hhalted, hmark⟩, hhold, hbegun, -, -, -⟩ := h.channel c
      refine ⟨?_, ?_, ?_, ?_, ?_, ?_⟩
      · rw [hself, hhalt]; exact ⟨houtput, hvalid, hhalted, hmark⟩
      · rw [hself]; exact hhold
      · rw [hself]; exact hbegun
      · rw [hslots]
        intro x hx
        obtain ⟨-, hlive, -⟩ := h.staged_of_inLease hc hx
        cases hidle.symm.trans hlive
      · rw [hself]
        intro hp
        cases hparked.symm.trans hp
      · rw [hself]
        rintro (ho | ho) <;> cases hparked.symm.trans ho
    | false =>
      refine (h.channel c).of_same (by rw [hchannel, if_neg (by rw [hc]; decide)]) (by rw [hslots]) hhalt (fun _ => .rfl)
        fun l' hl' => ?_
      have hne : l' ≠ l := by
        rintro rfl
        exact Bool.noConfusion ((h.inLease_of_lease hl').symm.trans hc)
      rw [hlease, if_neg hne]
      exact ⟨rfl, rfl⟩

/-! ### The configuration of a channel -/

theorem State.channelBusy_eq_false_iff (s : State) (c : ChannelId) :
    s.channelBusy c = false ↔
      ∀ l : LeaseId, s.channels[c].lease = some l → s.leases[l].live = false ∧ s.leases[l].state ≠ .lapsing := by
  unfold State.channelBusy
  cases hl : s.channels[c].lease with
  | none => exact iff_of_true rfl fun l he => nomatch he
  | some l =>
    rw [Bool.or_eq_false_iff, beq_eq_false_iff_ne]
    exact ⟨fun h l' he => Option.some.inj he ▸ h, fun h => h l rfl⟩

/-- A CONFIGURE_CHANNEL of a channel that is not busy keeps the invariant (R88, R89, R120). -/
theorem Sound.configured {w : Event → Prop} {s : State} {c : ChannelId} (h : Sound w s) (hfree : s.channelBusy c = false)
    (a : ParkAction) (t : ParkTiming) (g : HaltGroup) : Sound w (s.modChannel c fun ch => ch.configured s.haltTaken a t g) := by
  have hfree := (s.channelBusy_eq_false_iff c).mp hfree
  have hparked : s.channels[c].state = .parked := by
    cases hl : s.channels[c].lease with
    | none => exact (h.idle_of_no_lease hl).1
    | some l =>
      obtain ⟨hlive, hlapsing⟩ := hfree l hl
      exact h.parked_of_idle (h.inLease_of_lease hl) hlive hlapsing
  have hget (c' : ChannelId) : (s.modChannel c fun ch => ch.configured s.haltTaken a t g).channels[c'] =
      if c' = c then s.channels[c].configured s.haltTaken a t g else s.channels[c'] := s.modChannel_get c c' _
  have hstates (c' : ChannelId) : (s.modChannel c fun ch => ch.configured s.haltTaken a t g).channels[c'].state =
      s.channels[c'].state := by
    rw [hget]
    split
    · next heq => subst heq; rfl
    · rfl
  refine ⟨fun l c' => ?_, fun l => ?_, fun c' => ?_⟩
  · rw [hget]
    split
    · next heq => subst heq; exact h.tie l c'
    · exact h.tie l c'
  · obtain ⟨hrecord, hkind, hahead, hexpiry, hparking, hcommit⟩ := h.lease l
    refine ⟨hrecord, hkind, hahead, hexpiry, fun hs => ?_, fun hp => ?_⟩
    · obtain ⟨c', hc', hp⟩ := hparking hs
      exact ⟨c', hc', (hstates c').trans hp⟩
    · obtain ⟨hunhalted, ⟨x, hlead, hrun⟩, hstaged⟩ := hcommit hp
      refine ⟨fun c' hc' => ?_, ⟨x, hlead, (hstates x).trans hrun⟩, hstaged⟩
      rw [hget]
      split
      · next heq =>
        subst heq
        obtain ⟨hlive, -⟩ := hfree l (h.lease_of_inLease hc')
        cases hlive.symm.trans (hrecord.live_of_commitPending hp)
      · exact hunhalted c' hc'
  · by_cases heq : c' = c
    · subst heq
      have hself : (s.modChannel c' fun ch => ch.configured s.haltTaken a t g).channels[c'] =
          s.channels[c'].configured s.haltTaken a t g := by rw [hget, if_pos rfl]
      obtain ⟨hown, hhold, hbegun, hstaged, hparking, houtside⟩ := h.channel c'
      refine ⟨?_, ?_, ?_, ?_, ?_, ?_⟩ <;> rw [hself]
      · exact (hown.kept_configured hparked a t g).own
      · exact hhold
      · exact hbegun
      · exact hstaged
      · exact hparking
      · exact houtside
    · exact (h.channel c').of_same (by rw [hget, if_neg heq]) rfl rfl (fun _ => .rfl) fun _ _ => ⟨rfl, rfl⟩

/-! ### REVOKE and RESET_LEASES -/

theorem State.parkLease_anyParking (s : State) (l : LeaseId) : (s.parkLease l).anyParking l = false := by
  refine Bool.eq_false_iff.mpr fun hany => ?_
  obtain ⟨c, hc, hp⟩ := (State.anyParking_iff ..).mp hany
  rw [State.inLease_congr (s := s) (by rw [State.parkLease_leases])] at hc
  rw [State.parkLease_get, if_pos hc, Channel.parked_state] at hp
  cases hp

/-- A REVOKE of a LAPSING lease hands it on, its channels parked (R64). -/
theorem revoked_lapsing {s : State} {l : LeaseId} (hr : s.leases[l].Sound) (hs : s.leases[l].state = .lapsing) :
    s.revoked l = handedOver (s.parkLease l) l := by
  have hlive : ¬s.leases[l].live = true := fun hl => Lease.state_ne_lapsing_of_live hl hs
  rw [State.revoked, if_neg hlive]
  refine completeIfParked_eq ?_ ?_ (s.parkLease_anyParking l)
  · rw [State.parkLease_leases]; exact hs
  · rw [State.parkLease_leases]; exact hr.not_pending_of_lapsing hs

theorem handedOver_events (s : State) (l : LeaseId) :
    (handedOver s l).events = withoutEvents (fun e => e.isExpiryOf l) s.events := by
  rw [handedOver_eq]
  split <;> rfl

theorem Sound.parkLease_kept {w : Event → Prop} {s : State} (h : Sound w s) (l : LeaseId) (c : ChannelId)
    (hc : s.inLease l c = true) : s.channels[c].Kept s.haltTaken (s.parkLease l).channels[c] := by
  rw [State.parkLease_get, if_pos hc]
  exact (h.channel c).own.kept_parked

/-- A REVOKE of a lease that is live or LAPSING keeps the invariant, and withdraws a raised expiry (R63, R64). -/
theorem Sound.revoked {w : Event → Prop} {s : State} {l : LeaseId} (h : Sound w s) (hundefined : s.leases[l].state ≠ .undefined)
    (hvacant : s.leases[l].state ≠ .vacant) :
    Sound (unexpired l w) (s.revoked l) ∧ (s.revoked l).events = withoutEvents (fun e => e.isExpiryOf l) s.events := by
  by_cases hlive : s.leases[l].live = true
  · rw [State.revoked, if_pos hlive]
    exact ⟨h.lapse hlive (by decide), s.lapse_events l _⟩
  · have hs : s.leases[l].state = .lapsing := by
      rw [Lease.live_iff] at hlive
      cases hs : s.leases[l].state with
      | lapsing => rfl
      | undefined => exact absurd hs hundefined
      | vacant => exact absurd hs hvacant
      | held => exact absurd (.inl hs) hlive
      | grace => exact absurd (.inr hs) hlive
    rw [revoked_lapsing (h.lease l).record hs]
    refine ⟨h.handedOver (s.parkLease_localTo l) (by rw [State.parkLease_leases]) (h.parkLease_kept l) (fun c hc => ?_)
      (by rw [hs]; decide), ?_⟩
    · rw [State.parkLease_get, if_pos hc]
      exact Channel.parked_state _
    · rw [handedOver_events, State.parkLease_events]

/-- The holder and the waiters of a lease told of its reset, its channels parked (R65, steps 1 to 5). -/
def resetTold (s : State) (l : LeaseId) : State :=
  (if s.leases[l].live then (s.parkLease l).postHolder l (.lapsed .reset) else s.parkLease l).cancelWaits l s.leases[l].queue

theorem purge_post (s : State) (p : Port) (l l' : LeaseId) (k : Post) :
    (s.purge l).post p l' k = (s.post p l' k).purge l := by
  simp only [State.purge, State.post]
  rfl

theorem purge_postHolder (s : State) (l : LeaseId) (k : Post) : (s.purge l).postHolder l k = (s.postHolder l k).purge l := by
  unfold State.postHolder
  rw [State.purge_leases]
  cases s.leases[l].holder with
  | none => rfl
  | some p => exact purge_post s p l l k

theorem purge_cancelWaits (s : State) (l : LeaseId) (queue : List Waiter) :
    (s.purge l).cancelWaits l queue = (s.cancelWaits l queue).purge l := by
  unfold State.cancelWaits
  induction queue generalizing s with
  | nil => rfl
  | cons x rest ih =>
    rw [List.foldl_cons, List.foldl_cons, purge_post]
    exact ih _

theorem purge_setDeadline_modLease (s : State) (l : LeaseId) (d : Option Deadline) (f : Lease → Lease) :
    ((s.purge l).setDeadline l d).modLease l f = rewritten s l (f s.leases[l]) d := by
  simp only [State.purge, State.modLease, State.setDeadline, Claims.rewritten, withdrawn, purgedSlots]

theorem resetTold_leases (s : State) (l : LeaseId) : (resetTold s l).leases = s.leases := by
  rw [resetTold, State.cancelWaits_leases]
  split
  · rw [State.postHolder_leases, State.parkLease_leases]
  · exact State.parkLease_leases ..

/-- What RESET_LEASES does to a defined lease: one rewriting, over its channels parked and its ports told (R65). -/
theorem resetLease_eq {s : State} {l : LeaseId} (hdefined : s.leases[l].state ≠ .undefined) :
    s.resetLease l = rewritten (resetTold s l) l (vacantRecord s.leases[l]) none := by
  have htold : (if s.leases[l].live then ((s.parkLease l).purge l).postHolder l (.lapsed .reset)
      else (s.parkLease l).purge l).cancelWaits l s.leases[l].queue = (resetTold s l).purge l := by
    rw [resetTold, ← purge_cancelWaits]
    split
    · rw [purge_postHolder]
    · rfl
  rw [State.resetLease, if_neg hdefined]
  dsimp only
  rw [htold, purge_setDeadline_modLease, resetTold_leases]
  rfl

theorem resetTold_localTo (s : State) (l : LeaseId) : LocalTo l s (resetTold s l) := by
  refine LocalTo.trans ?_ (State.cancelWaits_localTo ..)
  split
  · exact (s.parkLease_localTo l).trans (State.postHolder_localTo ..)
  · exact s.parkLease_localTo l

@[simp] theorem State.cancelWaits_channels (s : State) (l : LeaseId) (queue : List Waiter) :
    (s.cancelWaits l queue).channels = s.channels := by
  unfold State.cancelWaits
  induction queue generalizing s with
  | nil => rfl
  | cons x rest ih => exact (ih _).trans (State.post_channels ..)

@[simp] theorem State.cancelWaits_events (s : State) (l : LeaseId) (queue : List Waiter) :
    (s.cancelWaits l queue).events = s.events := by
  unfold State.cancelWaits
  induction queue generalizing s with
  | nil => rfl
  | cons x rest ih => exact (ih _).trans (State.post_events ..)

theorem resetTold_channels (s : State) (l : LeaseId) : (resetTold s l).channels = (s.parkLease l).channels := by
  rw [resetTold, State.cancelWaits_channels]
  split
  · rw [State.postHolder_channels]
  · rfl

theorem resetTold_events (s : State) (l : LeaseId) : (resetTold s l).events = s.events := by
  rw [resetTold, State.cancelWaits_events]
  split
  · rw [State.postHolder_events, State.parkLease_events]
  · rw [State.parkLease_events]

/-- RESET_LEASES keeps the invariant, lease by lease (R65). -/
theorem Sound.resetLease {s : State} (h : Sound s.waits s) (l : LeaseId) : Sound (s.resetLease l).waits (s.resetLease l) := by
  by_cases hundefined : s.leases[l].state = .undefined
  · rw [State.resetLease, if_pos hundefined]; exact h
  · have hget (c : ChannelId) (hc : s.inLease l c = true) : (resetTold s l).channels[c] = s.channels[c].parked := by
      rw [resetTold_channels, State.parkLease_get, if_pos hc]
    rw [resetLease_eq hundefined, State.waits_of_withdrawn (s := s) (l := l)]
    swap
    · rw [Claims.rewritten, withdrawn, resetTold_events]
    refine h.rewritten (resetTold_localTo s l) (fun c hc => ?_) rfl (vacantRecord_sound (h.lease l).record hundefined) rfl rfl
      (fun x hx => nomatch hx) (fun hs => nomatch hs) (fun c hc hp => ?_) fun c hc ho => ?_
    · rw [hget c hc]; exact (h.channel c).own.kept_parked
    · rw [hget c hc, Channel.parked_state] at hp
      cases hp
    · rw [hget c hc, Channel.parked_state] at ho
      obtain ho | ho := ho <;> cases ho

/-! ### Departures -/

/-- A departure keeps the invariant, lease by lease (R42, R66). -/
theorem Sound.departLease {s : State} (h : Sound s.waits s) (p : Port) (l : LeaseId) :
    Sound (s.departLease p l).waits (s.departLease p l) := by
  have hqueue : Sound s.waits (s.modLease l fun r => { r with queue := r.queueWithout p }) := h.withoutEntry l p
  unfold State.departLease
  dsimp only
  split
  · next hheld =>
    obtain ⟨hlive, -⟩ := (Lease.heldBy_iff ..).mp hheld
    rw [State.waits_of_withdrawn (State.lapse_events ..)]
    exact hqueue.lapse hlive (by decide)
  · exact hqueue

theorem Sound.departPort {s : State} (h : Sound s.waits s) (p : Port) : Sound (s.departPort p).waits (s.departPort p) := by
  refine h.congr ?_ ?_ ?_ ?_ ?_ ?_ fun _ => .rfl <;> simp [State.departPort]

theorem Sound.departed {s : State} (h : Sound s.waits s) (p : Port) :
    Sound ((s.eachLease fun l u => u.departLease p l).departPort p).waits
      ((s.eachLease fun l u => u.departLease p l).departPort p) :=
  Sound.departPort (State.eachLease_induct (P := fun t => Sound t.waits t) s h fun l _ ht => ht.departLease p l) p

/-! ### Accepted requests -/

theorem Sound.of_withdrawn {s u : State} {l : LeaseId} (h : Sound (unexpired l s.waits) u)
    (hevents : u.events = withoutEvents (fun e => e.isExpiryOf l) s.events) : Sound u.waits u := by
  rw [State.waits_of_withdrawn hevents]
  exact h

theorem Sound.of_kept_events {s u : State} (h : Sound s.waits u) (hevents : u.events = s.events) : Sound u.waits u := by
  rw [State.waits_congr hevents]
  exact h

theorem State.committed_events (s : State) (l : LeaseId) : (s.committed l).events = s.events := by
  unfold State.committed
  split
  · rfl
  · exact s.executeCommit_events l

theorem State.parkListed_events (s : State) (l : LeaseId) (set : ChannelSet) : (s.parkListed l set).events = s.events := by
  unfold State.parkListed
  split
  · rw [State.executeCommit_events, State.parkSet, State.mapChannels_events]
  · rw [State.parkSet, State.mapChannels_events]

/-- An accepted request in range keeps the invariant. -/
theorem Sound.accepted {s u : State} {p : Port} {q : HostRequest} (h : Sound s.waits s) (hrange : q.inRange = true)
    (haccepted : Accepted s p q u) : Sound u.waits u := by
  have hlive {l : LeaseId} (hholder : s.leases[l].heldBy p = true) : s.leases[l].live = true :=
    ((Lease.heldBy_iff ..).mp hholder).1
  cases haccepted with
  | define l d hport hstate hfree => exact (h.defined hstate hfree hrange).of_withdrawn rfl
  | undefine l hport hstate => exact (h.undefined hstate).of_kept_events rfl
  | configureChannel c a t g hport hfree => exact (h.configured hfree a t g).of_kept_events rfl
  | revoke l hport hdefined hvacant =>
    obtain ⟨hsound, hevents⟩ := h.revoked hdefined hvacant
    exact hsound.of_withdrawn hevents
  | resetLeases => exact State.eachLease_induct (P := fun t => Sound t.waits t) s h fun l _ ht => ht.resetLease l
  | acquire l term wait hterm hstate => exact (h.acquired hstate hterm p).of_withdrawn (s.grant_events ..)
  | queue l term hterm hdefined hvacant hholder hentry =>
    exact (h.modLease (queue_append_sound (h.lease l).record hdefined hvacant hterm hholder hentry) rfl rfl rfl
      (h.lease l).commit).of_kept_events rfl
  | withdraw l => exact (h.withoutEntry l p).of_kept_events rfl
  | renew l e newTerm hholder hterm => exact (h.renewed (hlive hholder) hterm).of_withdrawn rfl
  | transfer l e target x hholder hpending hx =>
    exact (h.transferred (hlive hholder) hpending (Lease.targetEntry_mem hx)).of_withdrawn (State.grant_events ..)
  | release l e hholder => exact (h.lapse (hlive hholder) (by decide)).of_withdrawn (s.lapse_events ..)
  | stage l e c ps hholder hin hpending =>
    refine (h.setSlot (hlive hholder) hin hpending fun y hy => ?_).of_kept_events rfl
    cases hy
    exact ⟨hrange, rfl⟩
  | discard l e c hholder hin hpending =>
    exact (h.setSlot (x := none) (hlive hholder) hin hpending fun y hy => (nomatch hy)).of_kept_events rfl
  | commit l e hholder hstaged hhalted => exact (h.committed (hlive hholder) hstaged hhalted).of_kept_events (s.committed_events l)
  | resume l e hholder hpending hhalted =>
    exact (h.resumed (hlive hholder) hpending hhalted).of_kept_events (by rw [State.resumed, State.mapChannels_events])
  | park l e set hholder hin => exact (h.parkListed (hlive hholder) hin).of_kept_events (s.parkListed_events l set)
  | readNotices => exact h.congr rfl rfl rfl rfl rfl rfl fun _ => .rfl
  | queryLease | queryChannel | queryDevice => exact h

end Sys2Proof.Machine
end

section
/-! SUPPORT. Halt takes: what a take shows of each lease and each channel, and that it keeps the invariant. -/

namespace Sys2Proof.Machine

open Sys2Proof.Claims

/-! ### Posts alone -/

theorem noticeSetEmpty_ne_iff (s : State) (p : Port) :
    noticeSetEmpty s.notices[p] = false ↔ ∃ l : LeaseId, s.notices[p][l] ≠ none := by
  rw [← Bool.not_eq_true, noticeSetEmpty_iff, not_forall]

/-- Nothing but posts separates the notices and the ATTN lines of the two states (R144, R150). -/
structure OnlyPosted (s t : State) : Prop where
  kept : ∀ (p : Port) (l : LeaseId), t.notices[p][l] = none → s.notices[p][l] = none
  attn : AttnAfterPosts s t

theorem OnlyPosted.refl (s : State) : OnlyPosted s s :=
  ⟨fun _ _ => id, fun p => by rw [if_neg]; rintro ⟨hnone, l, hl⟩; exact hl (hnone l)⟩

theorem OnlyPosted.congr {s t u : State} (h : OnlyPosted s t) (hnotices : u.notices = t.notices) (hattn : u.attn = t.attn) :
    OnlyPosted s u := by
  refine ⟨fun p l => ?_, fun p => ?_⟩
  · rw [hnotices]; exact h.kept p l
  · rw [hattn, h.attn p]
    simp only [hnotices]

theorem State.post_notices_same (s : State) (p q : Port) (l : LeaseId) (k : Post) :
    (s.post p l k).notices[q][l] = if q = p then posted s.notices[q][l] k else s.notices[q][l] := by
  rw [State.post_get]
  by_cases hq : q = p
  · subst hq
    rw [if_pos ⟨rfl, rfl⟩, if_pos rfl]
    rfl
  · rw [if_neg fun h => hq h.1, if_neg hq]

theorem OnlyPosted.post {s t : State} (h : OnlyPosted s t) (p : Port) (l : LeaseId) (k : Post) :
    OnlyPosted s (t.post p l k) := by
  have hkept (q : Port) (l' : LeaseId) (hnone : (t.post p l k).notices[q][l'] = none) : t.notices[q][l'] = none := by
    rw [State.post_get] at hnone
    split at hnone
    · cases hnone
    · exact hnone
  refine ⟨fun q l' hnone => h.kept q l' (hkept q l' hnone), fun q => ?_⟩
  have hattn : (t.post p l k).attn[q] = if q = p ∧ noticeSetEmpty t.notices[p] = true then true else t.attn[q] := by
    rw [State.post_attn]
    by_cases hempty : noticeSetEmpty t.notices[p] = true
    · simp only [hempty, if_true, and_true, getElem_set_fin]
    · simp only [hempty, Bool.false_eq_true, if_false, and_false]
  rw [hattn]
  by_cases hq : q = p
  · subst hq
    have hsome : ∃ l' : LeaseId, (t.post q l k).notices[q][l'] ≠ none :=
      ⟨l, by rw [State.post_notices_same, if_pos rfl]; exact Option.some_ne_none _⟩
    by_cases hempty : noticeSetEmpty t.notices[q] = true
    · have hs (l' : LeaseId) : s.notices[q][l'] = none := h.kept q l' ((noticeSetEmpty_iff _).mp hempty l')
      rw [if_pos ⟨rfl, hempty⟩, if_pos ⟨hs, hsome⟩]
    · have hsome' := (noticeSetEmpty_ne_iff t q).mp (eq_false_of_ne_true hempty)
      rw [if_neg fun h => hempty h.2, h.attn q]
      exact if_congr (and_congr_right fun _ => iff_of_true hsome' hsome) rfl rfl
  · have hsame (l' : LeaseId) : (t.post p l k).notices[q][l'] = t.notices[q][l'] := by
      rw [State.post_get, if_neg fun h => hq h.1]
    rw [if_neg fun h => hq h.1, h.attn q]
    simp only [hsame]

theorem OnlyPosted.postHolder {s t : State} (h : OnlyPosted s t) (l : LeaseId) (k : Post) :
    OnlyPosted s (t.postHolder l k) := by
  unfold State.postHolder
  split
  · exact h.post ..
  · exact h

theorem OnlyPosted.handedOver {s t : State} (h : OnlyPosted s t) (l : LeaseId) : OnlyPosted s (handedOver t l) := by
  rw [handedOver_eq]
  split
  · exact h.congr rfl rfl
  · exact (h.congr (u := rewritten t l (handedOn t.leases[l]) (handedDeadline t t.leases[l])) rfl rfl).post ..

/-! ### One lease of a state -/

/-- What a state shows of one lease: its record, its deadline and its notices. -/
def State.leaseView (s : State) (l : LeaseId) : Lease × Option Deadline × (Port → Option Notice) :=
  (s.leases[l], s.deadlines[l], fun p => s.notices[p][l])

theorem LocalTo.leaseView {l l' : LeaseId} {s t : State} (h : LocalTo l' s t) (hne : l' ≠ l) : t.leaseView l = s.leaseView l := by
  unfold State.leaseView
  rw [h.leases l hne.symm, h.deadlines l hne.symm]
  congr 2
  funext p
  exact h.notices p l hne.symm

/-- What a lease shows after its lapse has completed (R33, R61). -/
theorem handedOver_leaseView (t : State) (l : LeaseId) :
    (handedOver t l).leaseView l =
      (handedOn t.leases[l], handedDeadline t t.leases[l], fun p =>
        if (t.leases[l].queue.head?.map Waiter.port) = some p then
          posted t.notices[p][l] (.granted (successor t.leases[l].epoch))
        else t.notices[p][l]) := by
  have hlease (r : Lease) (d : Option Deadline) : (rewritten t l r d).leases[l] = r := rewritten_lease ..
  have hdeadline (r : Lease) (d : Option Deadline) : (rewritten t l r d).deadlines[l] = d := by
    rw [rewritten, getElem_set_fin, if_pos rfl]
  rw [handedOver_eq]
  cases hq : t.leases[l].queue with
  | nil =>
    dsimp only [State.leaseView]
    rw [hlease, hdeadline]
    rfl
  | cons x rest =>
    dsimp only [State.leaseView]
    rw [State.post_leases, State.post_deadlines, hlease, hdeadline]
    congr 2
    funext p
    rw [State.post_notices_same]
    exact if_congr ⟨fun h => congrArg some h.symm, fun h => (Option.some.inj h).symm⟩ rfl rfl

/-! ### Channels at an assertion -/

theorem State.haltChannels_get (s : State) (line : HaltLine) (c : ChannelId) :
    (s.haltChannels line).channels[c] = s.channels[c].haltedBy line := s.mapChannels_get ..

theorem Channel.newlyHalted_iff (ch : Channel) (line : HaltLine) :
    ch.newlyHalted line = true ↔ groupHas ch.haltGroup line = true ∧ ch.halted = false := by
  rw [Channel.newlyHalted, Bool.and_eq_true, Bool.not_eq_true']

theorem Channel.haltedBy_of_not {ch : Channel} {line : HaltLine} (h : ¬ch.newlyHalted line = true) : ch.haltedBy line = ch :=
  if_neg h

theorem Channel.haltedBy_state {ch : Channel} {line : HaltLine} (h : (ch.haltedBy line).state ≠ .parked) :
    ch.haltedBy line = ch ∧ ¬ch.newlyHalted line = true := by
  unfold Channel.haltedBy at *
  split at h
  · exact absurd ch.parked_state h
  · next hnew => exact ⟨if_neg hnew, hnew⟩

theorem newlyHalted_iff_any (s : State) (line : HaltLine) (l : LeaseId) :
    NewlyHalted s line l ↔ s.anyInLease l (fun c => s.channels[c].newlyHalted line) = true := by
  rw [State.anyInLease_iff]
  exact exists_congr fun c => and_congr_right fun _ => (Channel.newlyHalted_iff ..).symm

/-! ### The walks of an assertion -/

/-- The state after the first walk of an assertion (R114, R115). -/
def State.haltCompleted (s : State) (line : HaltLine) : State :=
  ((s.lineTaken line true).haltChannels line).eachLease (haltCompleteStep (s.lineTaken line true) line)

/-- The state after both walks (R114 to R116). -/
def State.haltTold (s : State) (line : HaltLine) : State :=
  (s.haltCompleted line).eachLease (haltNoticeStep (s.lineTaken line true) line)

theorem State.haltAsserted_eq_told (s : State) (line : HaltLine) :
    s.haltAsserted line = (s.haltTold line).raiseHaltChange line := rfl

/-- What every step of both walks keeps: all but the leases' records, deadlines and notices is settled before the first. -/
structure AfterHalt (s : State) (line : HaltLine) (t : State) : Prop where
  channels : ∀ c : ChannelId, t.channels[c] = s.channels[c].haltedBy line
  defn : ∀ l : LeaseId, t.leases[l].defn = s.leases[l].defn
  slots : t.slots = s.slots
  events : t.events = s.events ∨ t.events = s.events.filter fun b => b != []
  now : t.now = s.now
  haltTaken : t.haltTaken = s.haltTaken.put line true
  haltSampled : t.haltSampled = s.haltSampled
  ports : t.ports = s.ports
  arbiter : t.arbiter = s.arbiter
  pending : t.pending = s.pending
  posted : OnlyPosted s t

theorem withoutEvents_of_none {p : Event → Bool} {events : List (List Event)} (h : ∀ b ∈ events, ∀ e ∈ b, p e = false) :
    withoutEvents p events = events.filter fun b => b != [] := by
  have hmap : (events.map fun b => b.filter fun e => !p e) = events := by
    refine (List.map_congr_left (g := id) fun b hb => ?_).trans (List.map_id events)
    exact List.filter_eq_self.mpr fun e he => by rw [h b hb e he]; rfl
  rw [withoutEvents, hmap]

theorem Sound.slot_of_lapsing {w : Event → Prop} {s : State} (h : Sound w s) {l : LeaseId} (hs : s.leases[l].state = .lapsing)
    {c : ChannelId} (hc : s.inLease l c = true) : s.slots[c] = none := by
  refine Option.eq_none_iff_forall_not_mem.mpr fun x hx => ?_
  obtain ⟨-, hlive, -⟩ := h.staged_of_inLease hc hx
  exact Lease.state_ne_lapsing_of_live hlive hs

theorem AfterHalt.inLease {s t : State} {line : HaltLine} (h : AfterHalt s line t) (l : LeaseId) (c : ChannelId) :
    t.inLease l c = s.inLease l c := State.inLease_congr (h.defn l) c

/-- The completion of a lease that was LAPSING finds its slots empty and no expiry of it waiting. -/
theorem AfterHalt.handedOver {w : Event → Prop} {s t : State} {line : HaltLine} (h : Sound w s) (hw : ∀ e, s.waits e → w e)
    (ht : AfterHalt s line t) {l : LeaseId} (hs : s.leases[l].state = .lapsing) : AfterHalt s line (handedOver t l) := by
  have hl := handedOver_localTo t l
  have hnone : ∀ b ∈ s.events, ∀ e ∈ b, e.isExpiryOf l = false := by
    intro b hb e he
    refine Bool.eq_false_iff.mpr fun hx => ?_
    obtain ⟨k, rfl⟩ := (e.isExpiryOf_iff l).mp hx
    exact h.no_expiry_of_lapsing hs k (hw _ (List.mem_flatten.mpr ⟨b, hb, he⟩))
  refine ⟨fun c => ?_, fun l' => ?_, ?_, ?_, hl.now.trans ht.now, hl.haltTaken.trans ht.haltTaken,
    hl.haltSampled.trans ht.haltSampled, hl.ports.trans ht.ports, hl.arbiter.trans ht.arbiter, hl.pending.trans ht.pending,
    ht.posted.handedOver l⟩
  · have hchannels : (Claims.handedOver t l).channels = t.channels := by
      rw [handedOver_eq]
      split <;> rfl
    rw [hchannels]
    exact ht.channels c
  · by_cases heq : l' = l
    · subst heq
      exact hl.defn.trans (ht.defn l')
    · rw [hl.leases l' heq]
      exact ht.defn l'
  · have hslots : (Claims.handedOver t l).slots = purgedSlots t l := by
      rw [handedOver_eq]
      split <;> rfl
    rw [hslots]
    refine vector_ext_fin fun c => ?_
    rw [purgedSlots, getElem_ofFn_fin, ht.inLease, ht.slots]
    split
    · next hc => exact (h.slot_of_lapsing hs hc).symm
    · rfl
  · rw [handedOver_events]
    obtain he | he := ht.events
    · rw [he]
      exact .inr (withoutEvents_of_none hnone)
    · rw [he]
      refine .inr ?_
      rw [withoutEvents_of_none fun b hb => hnone b (List.mem_of_mem_filter hb), List.filter_filter]
      simp only [Bool.and_self]

theorem haltCompletes_iff {w : Event → Prop} {s : State} (h : Sound w s) (line : HaltLine) (l : LeaseId) :
    HaltCompletes s line l ↔
      s.leases[l].state = .lapsing ∧
        ∀ c : ChannelId, s.inLease l c = true → (s.channels[c].haltedBy line).state ≠ .parking := by
  refine and_congr_right fun _ => forall_congr' fun c => imp_congr_right fun hc => ?_
  constructor
  · intro hall hp
    obtain ⟨hsame, hnew⟩ := Channel.haltedBy_state (by rw [hp]; decide)
    rw [hsame] at hp
    exact hnew ((Channel.newlyHalted_iff ..).mpr ⟨hall hp, (h.channel c).own.not_halted (by rw [hp]; decide)⟩)
  · intro hnot hp
    by_contra hgroup
    refine hnot ?_
    rw [Channel.haltedBy_of_not fun hnew => hgroup ((Channel.newlyHalted_iff ..).mp hnew).1]
    exact hp

/-- One step of the first walk, from a lease that has not been walked: the lapse completes as the law of R115 says. -/
theorem haltCompleteStep_eq {w : Event → Prop} {s t : State} {line : HaltLine} {l : LeaseId} (h : Sound w s)
    (ht : AfterHalt s line t) (hlease : t.leases[l] = s.leases[l]) :
    haltCompleteStep (s.lineTaken line true) line l t = if HaltCompletes s line l then handedOver t l else t := by
  have hany : t.anyParking l = true ↔
      ∃ c : ChannelId, s.inLease l c = true ∧ (s.channels[c].haltedBy line).state = .parking := by
    rw [State.anyParking_iff]
    exact exists_congr fun c => by rw [ht.inLease, ht.channels]
  have hcond : (s.lineTaken line true).anyInLease l (fun c => (s.lineTaken line true).channels[c].newlyHalted line &&
      (s.lineTaken line true).channels[c].state == .parking) = true ↔
        ∃ c : ChannelId, s.inLease l c = true ∧ s.channels[c].newlyHalted line = true ∧ s.channels[c].state = .parking := by
    rw [State.anyInLease_iff]
    exact exists_congr fun c => by rw [Bool.and_eq_true, beq_iff_eq]; rfl
  unfold haltCompleteStep
  by_cases hcompletes : HaltCompletes s line l
  · obtain ⟨hs, hall⟩ := hcompletes
    obtain ⟨c, hc, hp⟩ := (h.lease l).parking hs
    have hnew : s.channels[c].newlyHalted line = true :=
      (Channel.newlyHalted_iff ..).mpr ⟨hall c hc hp, (h.channel c).own.not_halted (by rw [hp]; decide)⟩
    rw [if_pos (hcond.mpr ⟨c, hc, hnew, hp⟩), if_pos ⟨hs, hall⟩]
    refine completeIfParked_eq (by rw [hlease]; exact hs) ?_ (Bool.eq_false_iff.mpr fun hp => ?_)
    · rw [hlease]; exact (h.lease l).record.not_pending_of_lapsing hs
    · obtain ⟨c, hc, hp⟩ := hany.mp hp
      exact ((haltCompletes_iff h line l).mp ⟨hs, hall⟩).2 c hc hp
  · rw [if_neg hcompletes]
    split
    · next hc =>
      obtain ⟨c, hin, -, hp⟩ := hcond.mp hc
      refine completeIfParked_of_not (.inr (hany.mpr ?_))
      by_contra hnone
      exact hcompletes ((haltCompletes_iff h line l).mpr ⟨h.lapsing_of_parking hin hp, fun c hc hp => hnone ⟨c, hc, hp⟩⟩)
    · rfl

theorem afterHalt_haltChannels (s : State) (line : HaltLine) : AfterHalt s line ((s.lineTaken line true).haltChannels line) := by
  constructor
  case channels => exact (s.lineTaken line true).haltChannels_get line
  case defn => intro l; rw [State.haltChannels_leases]; rfl
  case events => left; rw [State.haltChannels, State.mapChannels_events]; rfl
  case posted =>
    refine (OnlyPosted.refl s).congr ?_ ?_
    · rw [State.haltChannels, State.mapChannels_notices]; rfl
    · rw [State.haltChannels, State.mapChannels_attn]; rfl
  all_goals simp [State.haltChannels, State.lineTaken]

/-- The leases that are still LAPSING in the first walk are as the take found them. -/
abbrev LapsingKept (s t : State) : Prop := ∀ l : LeaseId, t.leases[l] = s.leases[l] ∨ t.leases[l].state ≠ .lapsing

theorem haltCompleteStep_keeps {w : Event → Prop} {s : State} (h : Sound w s) (hw : ∀ e, s.waits e → w e) (line : HaltLine)
    (l : LeaseId) (t : State) (ht : AfterHalt s line t ∧ LapsingKept s t) :
    AfterHalt s line (haltCompleteStep (s.lineTaken line true) line l t) ∧
      LapsingKept s (haltCompleteStep (s.lineTaken line true) line l t) := by
  obtain ⟨hafter, hkept⟩ := ht
  obtain hlease | hstate := hkept l
  · rw [haltCompleteStep_eq h hafter hlease]
    split
    · next hcompletes =>
      refine ⟨hafter.handedOver h hw hcompletes.1, fun l' => ?_⟩
      by_cases heq : l' = l
      · subst heq
        have hrecord : (handedOver t l').leases[l'] = handedOn t.leases[l'] := congrArg Prod.fst (handedOver_leaseView t l')
        rw [hrecord]
        obtain hs | hs := handedOn_state t.leases[l'] <;> (rw [hs]; exact .inr (by decide))
      · rw [(handedOver_localTo t l).leases l' heq]
        exact hkept l'
    · exact ⟨hafter, hkept⟩
  · have hsame : haltCompleteStep (s.lineTaken line true) line l t = t := by
      unfold haltCompleteStep
      split
      · exact completeIfParked_of_not (.inl hstate)
      · rfl
    rw [hsame]
    exact ⟨hafter, hkept⟩

theorem AfterHalt.handedDeadline {s t : State} {line : HaltLine} (h : AfterHalt s line t) (r : Lease) :
    handedDeadline t r = handedDeadline s r := handedDeadline_congr h.now rfl

theorem afterHalt_haltCompleted {w : Event → Prop} {s : State} (h : Sound w s) (hw : ∀ e, s.waits e → w e) (line : HaltLine) :
    AfterHalt s line (s.haltCompleted line) :=
  (State.eachLease_induct (P := fun t => AfterHalt s line t ∧ LapsingKept s t) ((s.lineTaken line true).haltChannels line)
    ⟨afterHalt_haltChannels s line, fun l => .inl (by rw [State.haltChannels_leases]; rfl)⟩
    (haltCompleteStep_keeps h hw line)).1

/-- What each lease shows after the completions of an assertion (R115). -/
theorem haltCompleted_leaseView {w : Event → Prop} {s : State} (h : Sound w s) (hw : ∀ e, s.waits e → w e) (line : HaltLine)
    (l : LeaseId) :
    (s.haltCompleted line).leaseView l =
      if HaltCompletes s line l then
        (handedOn s.leases[l], handedDeadline s s.leases[l], fun p =>
          if (s.leases[l].queue.head?.map Waiter.port) = some p then
            posted s.notices[p][l] (.granted (successor s.leases[l].epoch))
          else s.notices[p][l])
      else s.leaseView l := by
  have hstart : ((s.lineTaken line true).haltChannels line).leaseView l = s.leaseView l := by
    simp only [State.leaseView, State.haltChannels, State.mapChannels_leases, State.mapChannels_deadlines,
      State.mapChannels_notices]
    rfl
  obtain ⟨t, ⟨hafter, -⟩, hview, hend⟩ := State.eachLease_observe (fun t => t.leaseView l)
    (fun t => AfterHalt s line t ∧ LapsingKept s t) (haltCompleteStep_keeps h hw line) l
    (fun l' t hne _ => (haltCompleteStep_localTo (s.lineTaken line true) line l' t).leaseView hne)
    (s := (s.lineTaken line true).haltChannels line)
    ⟨afterHalt_haltChannels s line, fun l => .inl (by rw [State.haltChannels_leases]; rfl)⟩
  have hsame : t.leaseView l = s.leaseView l := hview.trans hstart
  have hlease : t.leases[l] = s.leases[l] := congrArg Prod.fst hsame
  have hnotices (p : Port) : t.notices[p][l] = s.notices[p][l] := congrFun (congrArg (·.2.2) hsame) p
  unfold State.haltCompleted
  rw [hend, haltCompleteStep_eq h hafter hlease]
  split
  · rw [handedOver_leaseView, hlease, hafter.handedDeadline]
    simp only [hnotices]
  · exact hsame

theorem AfterHalt.told {s t : State} {line : HaltLine} (h : AfterHalt s line t) (l : LeaseId) (k : Post) :
    AfterHalt s line (t.postHolder l k) := by
  obtain ⟨hchannels, hdefn, hslots, hevents, hnow, htaken, hsampled, hports, harbiter, hpending, hposted⟩ := h
  exact ⟨fun c => by rw [State.postHolder_channels]; exact hchannels c, fun l' => by rw [State.postHolder_leases]; exact hdefn l',
    by rw [State.postHolder_slots, hslots], by rw [State.postHolder_events]; exact hevents, by rw [State.postHolder_now, hnow],
    by rw [State.postHolder_haltTaken, htaken], by rw [State.postHolder_haltSampled, hsampled],
    by rw [State.postHolder_ports, hports], by rw [State.postHolder_arbiter, harbiter],
    by rw [State.postHolder_pending, hpending], hposted.postHolder l k⟩

theorem AfterHalt.cancelled {s t : State} {line : HaltLine} (h : AfterHalt s line t) (l : LeaseId) :
    AfterHalt s line (t.modLease l fun r => { r with commitPending := false }) := by
  obtain ⟨hchannels, hdefn, hslots, hevents, hnow, htaken, hsampled, hports, harbiter, hpending, hposted⟩ := h
  refine ⟨hchannels, fun l' => ?_, hslots, hevents, hnow, htaken, hsampled, hports, harbiter, hpending, hposted.congr rfl rfl⟩
  rw [State.modLease_get]
  split
  · next heq => subst heq; exact hdefn l'
  · exact hdefn l'

theorem haltNoticeStep_keeps {s : State} (line : HaltLine) (l : LeaseId) (t : State) (ht : AfterHalt s line t) :
    AfterHalt s line (haltNoticeStep (s.lineTaken line true) line l t) := by
  unfold haltNoticeStep
  split
  · split
    · exact ((ht.cancelled l).told l _).told l _
    · exact ht.told l _
  · exact ht

theorem afterHalt_haltTold {w : Event → Prop} {s : State} (h : Sound w s) (hw : ∀ e, s.waits e → w e) (line : HaltLine) :
    AfterHalt s line (s.haltTold line) :=
  State.eachLease_induct _ (afterHalt_haltCompleted h hw line) (haltNoticeStep_keeps line)

/-- One step of the second walk, from what the lease showed (R116). -/
theorem haltNoticeStep_leaseView {s t : State} {line : HaltLine} {l : LeaseId} (hrecord : s.leases[l].Sound)
    (hview : s.leases[l].live = true → t.leaseView l = s.leaseView l) :
    (haltNoticeStep (s.lineTaken line true) line l t).leaseView l =
      if s.leases[l].live = true ∧ NewlyHalted s line l then
        ({ s.leases[l] with commitPending := false }, s.deadlines[l], fun p =>
          if s.leases[l].holder = some p then
            if s.leases[l].commitPending = true then posted (posted s.notices[p][l] .commitCancelled) .halted
            else posted s.notices[p][l] .halted
          else s.notices[p][l])
      else t.leaseView l := by
  have hcond : ((s.lineTaken line true).leases[l].live &&
      (s.lineTaken line true).anyInLease l (fun c => (s.lineTaken line true).channels[c].newlyHalted line)) = true ↔
        s.leases[l].live = true ∧ NewlyHalted s line l := by
    rw [Bool.and_eq_true, newlyHalted_iff_any]
    rfl
  unfold haltNoticeStep
  by_cases hnew : s.leases[l].live = true ∧ NewlyHalted s line l
  swap
  · rw [if_neg (mt hcond.mp hnew), if_neg hnew]
  rw [if_pos (hcond.mpr hnew), if_pos hnew]
  obtain ⟨hlive, -⟩ := hnew
  have hlease : t.leases[l] = s.leases[l] := congrArg Prod.fst (hview hlive)
  have hdeadline : t.deadlines[l] = s.deadlines[l] := congrArg (·.2.1) (hview hlive)
  have hnotices (p : Port) : t.notices[p][l] = s.notices[p][l] := congrFun (congrArg (·.2.2) (hview hlive)) p
  obtain ⟨q, hholder⟩ := hrecord.holder_of_live hlive
  have hswap (p : Port) : s.leases[l].holder = some p ↔ p = q := by
    rw [hholder, Option.some.injEq, eq_comm]
  have hbefore : (s.lineTaken line true).leases[l] = s.leases[l] := rfl
  simp only [hswap]
  rw [hbefore]
  by_cases hpending : s.leases[l].commitPending = true
  · have hmod : (t.modLease l fun r => { r with commitPending := false }).leases[l] =
        { s.leases[l] with commitPending := false } := by rw [State.modLease_get, if_pos rfl, hlease]
    rw [if_pos hpending, State.postHolder_of_holder (p := q) (by rw [State.postHolder_leases, hmod]; exact hholder),
      State.postHolder_of_holder (p := q) (by rw [hmod]; exact hholder)]
    dsimp only [State.leaseView]
    rw [State.post_leases, State.post_leases, hmod]
    congr 2
    funext p
    rw [State.post_notices_same, State.post_notices_same, State.modLease_notices, hnotices, if_pos hpending]
    split <;> rfl
  · have hfalse : ({ s.leases[l] with commitPending := false } : Lease) = s.leases[l] := by
      rw [← eq_false_of_ne_true hpending]
    rw [if_neg hpending, State.postHolder_of_holder (p := q) (by rw [hlease]; exact hholder), hfalse]
    dsimp only [State.leaseView]
    rw [State.post_leases, State.post_deadlines, hlease, hdeadline]
    congr 2
    funext p
    rw [State.post_notices_same, hnotices, if_neg hpending]

/-- What each lease shows after an assertion (R115, R116). -/
theorem haltTold_leaseView {w : Event → Prop} {s : State} (h : Sound w s) (hw : ∀ e, s.waits e → w e) (line : HaltLine)
    (l : LeaseId) :
    (s.haltTold line).leaseView l =
      if s.leases[l].live = true ∧ NewlyHalted s line l then
        ({ s.leases[l] with commitPending := false }, s.deadlines[l], fun p =>
          if s.leases[l].holder = some p then
            if s.leases[l].commitPending = true then posted (posted s.notices[p][l] .commitCancelled) .halted
            else posted s.notices[p][l] .halted
          else s.notices[p][l])
      else if HaltCompletes s line l then
        (handedOn s.leases[l], handedDeadline s s.leases[l], fun p =>
          if (s.leases[l].queue.head?.map Waiter.port) = some p then
            posted s.notices[p][l] (.granted (successor s.leases[l].epoch))
          else s.notices[p][l])
      else s.leaseView l := by
  obtain ⟨t, -, hview, hend⟩ := State.eachLease_observe (fun t => t.leaseView l) (fun _ => True) (fun _ _ _ => trivial) l
    (fun l' t hne _ => (haltNoticeStep_localTo (s.lineTaken line true) line l' t).leaseView hne) (s := s.haltCompleted line) trivial
  have hcompleted := hview.trans (haltCompleted_leaseView h hw line l)
  unfold State.haltTold
  rw [hend, haltNoticeStep_leaseView (h.lease l).record, hcompleted]
  intro hlive
  rw [hcompleted, if_neg fun hc => Lease.state_ne_lapsing_of_live hlive hc.1]

/-! ### The invariant after an assertion -/

theorem haltTold_lease {w : Event → Prop} {s : State} (h : Sound w s) (hw : ∀ e, s.waits e → w e) (line : HaltLine) (l : LeaseId) :
    (s.haltTold line).leases[l] =
      if s.leases[l].live = true ∧ NewlyHalted s line l then { s.leases[l] with commitPending := false }
      else if HaltCompletes s line l then handedOn s.leases[l]
      else s.leases[l] := by
  refine (congrArg Prod.fst (haltTold_leaseView h hw line l)).trans ?_
  split
  · rfl
  · split <;> rfl

theorem haltTold_deadline {w : Event → Prop} {s : State} (h : Sound w s) (hw : ∀ e, s.waits e → w e) (line : HaltLine)
    (l : LeaseId) :
    (s.haltTold line).deadlines[l] = if HaltCompletes s line l then handedDeadline s s.leases[l] else s.deadlines[l] := by
  refine (congrArg (·.2.1) (haltTold_leaseView h hw line l)).trans ?_
  split
  · next hlive => rw [if_neg fun hc => Lease.state_ne_lapsing_of_live hlive.1 hc.1]
  · split <;> rfl

/-- The record of a lease that was live stays live under its epoch, one that goes on LAPSING is as it was (R115, R116). -/
theorem haltTold_lease_kept {w : Event → Prop} {s : State} (h : Sound w s) (hw : ∀ e, s.waits e → w e) (line : HaltLine)
    {l : LeaseId} (hnot : ¬HaltCompletes s line l) :
    (s.haltTold line).leases[l].state = s.leases[l].state ∧ (s.haltTold line).leases[l].epoch = s.leases[l].epoch := by
  rw [haltTold_lease h hw, if_neg hnot]
  split <;> exact ⟨rfl, rfl⟩

theorem Sound.haltTold_leaseSound {w : Event → Prop} {s : State} (h : Sound w s) (hw : ∀ e, s.waits e → w e) (line : HaltLine)
    (l : LeaseId) : LeaseSound w (s.haltTold line) l := by
  have hafter := afterHalt_haltTold h hw line
  have hlease := haltTold_lease h hw line l
  have hdeadline := haltTold_deadline h hw line l
  obtain ⟨hrecord, hkind, hahead, hexpiry, hparking, hcommit⟩ := h.lease l
  by_cases hcompletes : HaltCompletes s line l
  · have hnot : ¬(s.leases[l].live = true ∧ NewlyHalted s line l) := fun hn =>
      Lease.state_ne_lapsing_of_live hn.1 hcompletes.1
    have hdefined : s.leases[l].state ≠ .undefined := by rw [hcompletes.1]; decide
    rw [if_neg hnot, if_pos hcompletes] at hlease
    rw [if_pos hcompletes] at hdeadline
    obtain ⟨hkind', hfits⟩ := handedDeadline_fits hrecord hdefined s
    refine ⟨?_, ?_, ?_, fun k hk => absurd hk (h.no_expiry_of_lapsing hcompletes.1 k), ?_, ?_⟩
    · rw [hlease]; exact handedOn_sound hrecord hdefined
    · rw [hlease, hdeadline]; exact hkind'
    · rw [hlease, hdeadline, hafter.now]; exact fun d hd _ => hfits d hd
    · rw [hlease]
      intro hs
      obtain hs' | hs' := handedOn_state s.leases[l] <;> cases hs'.symm.trans hs
    · rw [hlease, handedOn_commitPending]
      exact fun hp => nomatch hp
  · rw [if_neg hcompletes] at hlease hdeadline
    by_cases hnew : s.leases[l].live = true ∧ NewlyHalted s line l
    · rw [if_pos hnew] at hlease
      refine ⟨?_, ?_, ?_, ?_, ?_, ?_⟩
      · rw [hlease]; exact commitPending_sound hrecord fun hb => nomatch hb
      · rw [hlease, hdeadline]; exact hkind
      · rw [hlease, hdeadline, hafter.now]; exact hahead
      · rw [hdeadline]; exact hexpiry
      · rw [hlease]
        exact fun hs => absurd hs (Lease.state_ne_lapsing_of_live hnew.1)
      · rw [hlease]
        exact fun hp => nomatch hp
    · rw [if_neg hnew] at hlease
      refine ⟨?_, ?_, ?_, ?_, ?_, ?_⟩
      · rw [hlease]; exact hrecord
      · rw [hlease, hdeadline]; exact hkind
      · rw [hlease, hdeadline, hafter.now]; exact hahead
      · rw [hdeadline]; exact hexpiry
      · rw [hlease]
        intro hs
        have hsome : ∃ c : ChannelId, s.inLease l c = true ∧ (s.channels[c].haltedBy line).state = .parking := by
          by_contra hnone
          exact hcompletes ((haltCompletes_iff h line l).mpr ⟨hs, fun c hc hp => hnone ⟨c, hc, hp⟩⟩)
        obtain ⟨c, hc, hp⟩ := hsome
        exact ⟨c, (hafter.inLease l c).trans hc, by rw [hafter.channels]; exact hp⟩
      · rw [hlease]
        intro hp
        have hlive := hrecord.live_of_commitPending hp
        obtain ⟨hunhalted, ⟨x, hlead, hrun⟩, ⟨y, hy, hstaged⟩⟩ := hcommit hp
        have hsame (c : ChannelId) (hc : s.inLease l c = true) : (s.haltTold line).channels[c] = s.channels[c] := by
          rw [hafter.channels]
          refine Channel.haltedBy_of_not fun hn => hnew ⟨hlive, c, hc, ?_⟩
          exact (Channel.newlyHalted_iff ..).mp hn
        refine ⟨fun c hc => ?_, ⟨x, by rw [hlease]; exact hlead, ?_⟩, ⟨y, (hafter.inLease l y).trans hy, ?_⟩⟩
        · rw [hafter.inLease] at hc
          rw [hsame c hc]
          exact hunhalted c hc
        · rw [hsame x (h.inLease_of_hasLead hlead)]
          exact hrun
        · rw [hafter.slots]; exact hstaged

theorem Sound.haltTold_channelSound {w : Event → Prop} {s : State} (h : Sound w s) (hw : ∀ e, s.waits e → w e) (line : HaltLine)
    (c : ChannelId) : ChannelSound w (s.haltTold line) c := by
  have hafter := afterHalt_haltTold h hw line
  have hchannel := hafter.channels c
  obtain ⟨hown, hhold, hbegun, hstaged, hparking, houtside⟩ := h.channel c
  have hkept := hown.haltedBy line
  have hlive {l : LeaseId} (hl : s.leases[l].live = true) :
      (s.haltTold line).leases[l].live = true ∧ (s.haltTold line).leases[l].epoch = s.leases[l].epoch := by
    obtain ⟨hs, he⟩ := haltTold_lease_kept h hw line (l := l) fun hc => Lease.state_ne_lapsing_of_live hl hc.1
    exact ⟨by rw [Lease.live, hs]; exact hl, he⟩
  refine ⟨?_, ?_, ?_, ?_, ?_, ?_⟩
  · rw [hchannel, hafter.haltTaken]; exact hkept.own
  · rw [hchannel, hkept.holdSerial]; exact fun hh => hhold (hkept.hold hh)
  · rw [hchannel, hkept.holdSerial]; exact hbegun
  · rw [hafter.slots, hchannel, hkept.lease]
    intro x hx
    obtain ⟨hvalid, l, hl, hlv, htag⟩ := hstaged x hx
    obtain ⟨hlv', hepoch⟩ := hlive hlv
    exact ⟨hvalid, l, hl, hlv', htag.trans hepoch.symm⟩
  · rw [hchannel, hkept.lease]
    intro hp
    obtain ⟨hsame, -⟩ := Channel.haltedBy_state (ch := s.channels[c]) (line := line) (by rw [hp]; decide)
    obtain ⟨l, hl, hs⟩ := hparking (by rw [← hsame]; exact hp)
    have hnot : ¬HaltCompletes s line l := fun hc =>
      ((haltCompletes_iff h line l).mp hc).2 c (h.inLease_of_lease hl) hp
    exact ⟨l, hl, (haltTold_lease_kept h hw line hnot).1.trans hs⟩
  · rw [hchannel, hkept.lease]
    intro ho
    obtain ⟨hsame, -⟩ := Channel.haltedBy_state (ch := s.channels[c]) (line := line) (by obtain ho | ho := ho <;> (rw [ho]; decide))
    obtain ⟨l, hl, hlv⟩ := houtside (by rw [← hsame]; exact ho)
    exact ⟨l, hl, (hlive hlv).1⟩

/-- HALT_ASSERTION keeps the invariant (R114 to R116). -/
theorem Sound.haltAsserted {s : State} (h : Sound s.waits s) (line : HaltLine) :
    Sound (s.haltAsserted line).waits (s.haltAsserted line) := by
  have hafter := afterHalt_haltTold h (fun _ => id) line
  have hwaits : (s.haltTold line).waits = s.waits := by
    funext e
    unfold State.waits
    obtain he | he := hafter.events
    · rw [he]
    · have hsame : withoutEvents (fun _ => false) s.events = s.events.filter fun b => b != [] :=
        withoutEvents_of_none fun _ _ _ _ => rfl
      rw [he, ← hsame, mem_withoutEvents_flatten]
      exact propext (and_iff_left rfl)
  rw [State.haltAsserted_eq_told]
  refine Sound.raiseHaltChange ?_ line
  rw [hwaits]
  refine ⟨fun l c => ?_, h.haltTold_leaseSound (fun _ => id) line, h.haltTold_channelSound (fun _ => id) line⟩
  rw [hafter.channels, hafter.inLease, ((h.channel c).own.haltedBy line).lease]
  exact h.tie l c

/-! ### Releases -/

theorem State.releaseChannels_get (s : State) (c : ChannelId) :
    s.releaseChannels.channels[c] = s.channels[c].releasedAt s.haltTaken := s.mapChannels_get ..

theorem Channel.releasedAt_state (ch : Channel) (h : HaltLevels) : (ch.releasedAt h).state = ch.state := by
  rw [Channel.releasedAt_eq]

/-- A mark that is set after a release was set before (R117). -/
theorem Channel.halted_of_releasedAt {ch : Channel} {h : HaltLevels} (hh : ch.halted = false) : (ch.releasedAt h).halted = false := by
  rw [Channel.releasedAt_eq, hh]
  rfl

theorem Sound.released {s : State} (h : Sound s.waits s) (line : HaltLine) :
    Sound s.waits (s.lineTaken line false).releaseChannels := by
  have hchannel (c : ChannelId) : (s.lineTaken line false).releaseChannels.channels[c] =
      s.channels[c].releasedAt (s.haltTaken.put line false) := State.releaseChannels_get ..
  have hleases : (s.lineTaken line false).releaseChannels.leases = s.leases := by rw [State.releaseChannels_leases]; rfl
  have hin (l : LeaseId) (c : ChannelId) : (s.lineTaken line false).releaseChannels.inLease l c = s.inLease l c :=
    State.inLease_congr (by rw [hleases]) c
  have hdeadlines : (s.lineTaken line false).releaseChannels.deadlines = s.deadlines := by
    rw [State.releaseChannels, State.mapChannels_deadlines]; rfl
  have hslots : (s.lineTaken line false).releaseChannels.slots = s.slots := by
    rw [State.releaseChannels, State.mapChannels_slots]; rfl
  have hnow : (s.lineTaken line false).releaseChannels.now = s.now := by
    rw [State.releaseChannels, State.mapChannels_now]; rfl
  have htaken : (s.lineTaken line false).releaseChannels.haltTaken = s.haltTaken.put line false := by
    rw [State.releaseChannels, State.mapChannels_haltTaken]; rfl
  refine ⟨fun l c => ?_, fun l => ?_, fun c => ?_⟩
  · rw [hchannel, hin, ((h.channel c).own.releasedAt line).lease]
    exact h.tie l c
  · obtain ⟨hrecord, hkind, hahead, hexpiry, hparking, hcommit⟩ := h.lease l
    refine ⟨?_, ?_, ?_, ?_, ?_, ?_⟩
    · rw [hleases]; exact hrecord
    · rw [hleases, hdeadlines]; exact hkind
    · rw [hleases, hdeadlines, hnow]; exact hahead
    · rw [hdeadlines]; exact hexpiry
    · rw [hleases]
      intro hs
      obtain ⟨c, hc, hp⟩ := hparking hs
      exact ⟨c, (hin l c).trans hc, by rw [hchannel, Channel.releasedAt_state]; exact hp⟩
    · rw [hleases]
      intro hp
      obtain ⟨hunhalted, ⟨x, hlead, hrun⟩, ⟨y, hy, hstaged⟩⟩ := hcommit hp
      refine ⟨fun c hc => ?_, ⟨x, by rw [hleases]; exact hlead, ?_⟩, ⟨y, (hin l y).trans hy, ?_⟩⟩
      · rw [hchannel]
        exact Channel.halted_of_releasedAt (hunhalted c ((hin l c).symm.trans hc))
      · rw [hchannel, Channel.releasedAt_state]; exact hrun
      · rw [hslots]; exact hstaged
  · obtain ⟨hown, hhold, hbegun, hstaged, hparking, houtside⟩ := h.channel c
    have hkept := hown.releasedAt line
    refine ⟨?_, ?_, ?_, ?_, ?_, ?_⟩
    · rw [hchannel, htaken]; exact hkept.own
    · rw [hchannel, hkept.holdSerial]; exact fun hh => hhold (hkept.hold hh)
    · rw [hchannel, hkept.holdSerial]; exact hbegun
    · rw [hslots, hchannel, hkept.lease, hleases]; exact hstaged
    · rw [hchannel, hkept.lease, hleases, Channel.releasedAt_state]; exact hparking
    · rw [hchannel, hkept.lease, hleases, Channel.releasedAt_state]; exact houtside

/-- HALT_RELEASE keeps the invariant (R117, R118). -/
theorem Sound.haltReleased {s : State} (h : Sound s.waits s) (line : HaltLine) :
    Sound (s.haltReleased line).waits (s.haltReleased line) := by
  have hstart : (s.lineTaken line false).releaseChannels.waits = s.waits :=
    State.waits_congr (by rw [State.releaseChannels, State.mapChannels_events]; rfl)
  rw [State.haltReleased_eq]
  refine Sound.raiseHaltChange (State.eachLease_induct (P := fun t => Sound t.waits t) _ ?_ fun l t ht => ?_) line
  · rw [hstart]; exact h.released line
  · unfold releaseNoticeStep
    split
    · rw [State.waits_congr (State.postHolder_events ..)]
      exact ht.postHolder ..
    · exact ht

end Sys2Proof.Machine
end

section
/-! SUPPORT. Every effect keeps the invariant, and so does every run. -/

namespace Sys2Proof.Machine

open Sys2Proof.Claims

theorem Lease.afterReset_sound : Lease.afterReset.Sound := by constructor <;> decide

theorem Channel.afterReset_sound (h : HaltLevels) : Channel.afterReset.Sound h := by
  refine ⟨?_, (fun ps hps => nomatch hps), rfl, (fun hh => nomatch hh)⟩
  decide

theorem Sound.afterReset (pins : Pins) : Sound (State.afterReset pins).waits (State.afterReset pins) := by
  have hlease (l : LeaseId) : (State.afterReset pins).leases[l] = Lease.afterReset := by simp [State.afterReset]
  have hdeadline (l : LeaseId) : (State.afterReset pins).deadlines[l] = none := by simp [State.afterReset]
  have hchannel (c : ChannelId) : (State.afterReset pins).channels[c] = Channel.afterReset := by simp [State.afterReset]
  have hslot (c : ChannelId) : (State.afterReset pins).slots[c] = none := by simp [State.afterReset]
  have hwaits (e : Event) : ¬(State.afterReset pins).waits e := List.not_mem_nil
  refine ⟨fun l c => ?_, fun l => ?_, fun c => ?_⟩
  · rw [hchannel, State.inLease, hlease]
    exact iff_of_false (fun he => nomatch he) (by rw [Lease.channelSet, Lease.afterReset, Option.elim_none]; simp)
  · refine ⟨?_, ?_, ?_, fun k hk => absurd hk (hwaits _), ?_, ?_⟩
    · rw [hlease]; exact Lease.afterReset_sound
    · rw [hlease, hdeadline]; rfl
    · rw [hdeadline]; exact fun d hd => nomatch hd
    · rw [hlease]; exact fun hs => nomatch hs
    · rw [hlease]; exact fun hp => nomatch hp
  · refine ⟨?_, ?_, fun n hn => absurd hn (hwaits _), ?_, ?_, ?_⟩
    · rw [hchannel]; exact Channel.afterReset_sound _
    · rw [hchannel]; exact fun hh => nomatch hh
    · rw [hslot]; exact fun x hx => nomatch hx
    · rw [hchannel]; exact fun hp => nomatch hp
    · rw [hchannel]
      rintro (ho | ho) <;> cases ho

theorem Sound.modPort {s : State} (h : Sound s.waits s) (p : Port) (f : PortRecord → PortRecord) :
    Sound (s.modPort p f).waits (s.modPort p f) := h.congr rfl rfl rfl rfl rfl rfl fun _ => .rfl

theorem Sound.respond {s : State} (h : Sound s.waits s) (p : Port) (st : Status) (tag : Byte) (body : List Byte) :
    Sound (s.respond p st tag body).waits (s.respond p st tag body) := h.congr rfl rfl rfl rfl rfl rfl fun _ => .rfl

theorem State.counted_events (s : State) (c : ChannelId) : (s.counted c).events = s.events := by
  unfold State.counted
  repeat' split
  all_goals simp

/-- Every effect keeps the laws of the lease table and of the outputs. -/
theorem Effect.sound {s t : State} {i : Instr} (h : Sound s.waits s) (heffect : Effect s i t) : Sound t.waits t := by
  cases heffect with
  | idle => exact h
  | deviceReset pins => exact (Sound.afterReset pins).congr rfl rfl rfl rfl rfl rfl fun _ => .rfl
  | tick => exact h.tick
  | termExpiry l hdue =>
    have hw := State.waits_of_due hdue
    have hlive := h.live_of_expiry hw
    refine Sound.of_expiry ((h.dropDue _).termExpired ?_) (State.termExpired_events ..)
    rw [State.dropDue_leases]
    exact hlive
  | graceExpiry l hdue =>
    have hw := State.waits_of_due hdue
    have hlive := h.live_of_expiry hw
    refine Sound.of_expiry ((h.dropDue _).lapse ?_ (by decide)) (State.lapse_events ..)
    rw [State.dropDue_leases]
    exact hlive
  | periodEnd c => exact h.periodEnded c
  | holdEnded c n hdue hhold => exact h.holdEnded hhold
  | boundary c n hdue hhold => exact h.boundaryTaken hhold
  | haltChange line asserted =>
    have hsampled : Sound ({ s with haltSampled := s.haltSampled.put line asserted } : State).waits
        { s with haltSampled := s.haltSampled.put line asserted } := h.congr rfl rfl rfl rfl rfl rfl fun _ => .rfl
    exact hsampled.raiseHaltChange line
  | haltAssertion line => exact (h.dropOther rfl).haltAsserted line
  | haltRelease line => exact (h.dropOther rfl).haltReleased line
  | fall p => exact (h.modPort p _).raise_other rfl
  | departure p => exact (h.dropOther rfl).departed p
  | port i p f => exact h.modPort p f
  | count c => exact (h.counted c).of_kept_events (s.counted_events c)
  | refused i p st tag => exact h.respond ..
  | accepted p r q u st body hnext hrange haccepted => exact (h.accepted hrange haccepted).respond ..

/-- Every step keeps them. -/
theorem Sound.step {s t : State} (h : Sound s.waits s) (hstep : step s = .next t) : Sound t.waits t := by
  unfold Machine.step at hstep
  split at hstep
  · cases hstep; exact h
  · next i rest _ =>
    have hrest : Sound ({ s with pending := rest } : State).waits { s with pending := rest } :=
      h.congr rfl rfl rfl rfl rfl rfl fun _ => .rfl
    exact (effect_of_exec hstep).sound hrest

end Sys2Proof.Machine

namespace Sys2Proof.Claims

open Sys2Proof.Machine

/-- Settles O55: the laws of the lease table are part of the invariant that every effect keeps. -/
theorem stepsKeepTheLeaseTableLaws : Obligations.StepsKeepTheLeaseTableLaws := by
  intro s t hlawful hstep
  have h := hlawful.sound.step hstep
  exact ⟨h.recordLaw, h.tie, h.deadlineLaw⟩

/-- Settles O56: the laws of the outputs are part of the same invariant. -/
theorem stepsKeepTheOutputLaws : Obligations.StepsKeepTheOutputLaws := by
  intro s t hlawful hstep
  have h := hlawful.sound.step hstep
  exact ⟨h.parkingLaw, h.outsideLaw, h.channelLaw, h.holdLaw, h.stagingLaw, h.pendingLaw, h.haltLaw⟩

/-- A group with an ASSERTED line has its condition true (R112). -/
theorem haltCondition_of_asserted {g : HaltGroup} {h : HaltLevels} {line : HaltLine} (hgroup : groupHas g line = true)
    (hline : h.get line = true) : haltCondition g h = true := by
  cases line <;> cases g <;> simp_all [haltCondition, groupHas, HaltLevels.get]

/-- A run that completes steps, and goes on from there. -/
theorem run_succ_eq_next {M : Host.Core} {n : Nat} {s t : M.State} (h : M.run (n + 1) s = .next t) :
    ∃ s' : M.State, M.step s = .next s' ∧ M.run n s' = .next t := by
  rw [Host.Core.run] at h
  split at h
  · next s' hstep => exact ⟨s', hstep, h⟩
  · cases h
  · cases h

/-- The invariant stands after any number of steps. -/
theorem sound_of_run {n : Nat} {s t : State} (h : Sound s.waits s) (hrun : core.run n s = .next t) : Sound t.waits t := by
  induction n generalizing s with
  | zero => cases hrun; exact h
  | succ n ih =>
    obtain ⟨s', hstep, hrest⟩ := run_succ_eq_next (M := core) hrun
    exact ih (h.step hstep) hrest

/-- Settles O58, by induction on the number of steps: the halt law is part of the invariant. -/
theorem haltedChannelsStayParkedInEveryRun : Obligations.HaltedChannelsStayParkedInEveryRun := by
  intro n s t c line hlawful hrun hgroup hline
  obtain ⟨-, -, hhalted, hparked⟩ := ((sound_of_run hlawful.sound hrun).channel c).own
  have hmark : t.channels[c].halted = true := hhalted.trans (haltCondition_of_asserted hgroup hline)
  exact ⟨hparked hmark, hmark⟩

end Sys2Proof.Claims
end

section
/-! SUPPORT. The takes of halt changes, with everything they show. -/

namespace Sys2Proof.Machine

open Sys2Proof.Claims

/-! ### The comparison that ends a take -/

theorem HaltLevels.get_put (h : HaltLevels) (line : HaltLine) (asserted : Bool) : (h.put line asserted).get line = asserted := by
  cases line <;> rfl

theorem State.waitingEvent_eq_false_iff (s : State) (p : Event → Bool) :
    s.waitingEvent p = false ↔ ∀ b ∈ s.events, ∀ e ∈ b, p e = false := by
  simp [State.waitingEvent]

/-- The comparison that ends the take of a halt change (R113). -/
theorem State.raiseHaltChange_events {s : State} {line : HaltLine} {taken : Bool} (h : s.haltTaken.get line = taken) :
    (s.raiseHaltChange line).events =
      if s.haltSampled.get line ≠ taken ∧ ∀ b ∈ s.events, ∀ e ∈ b, e.isChangeOf line = false then
        s.events ++ [[.haltChange line (!taken)]]
      else s.events := by
  have hcond : (s.haltSampled.get line != s.haltTaken.get line && !s.waitingEvent fun e => e.isChangeOf line) = true ↔
      s.haltSampled.get line ≠ taken ∧ ∀ b ∈ s.events, ∀ e ∈ b, e.isChangeOf line = false := by
    rw [Bool.and_eq_true, bne_iff_ne, h, Bool.not_eq_true', State.waitingEvent_eq_false_iff]
  rw [State.raiseHaltChange_eq]
  dsimp only
  by_cases hc : s.haltSampled.get line ≠ taken ∧ ∀ b ∈ s.events, ∀ e ∈ b, e.isChangeOf line = false
  · rw [if_pos (hcond.mpr hc), if_pos hc, Bool.eq_not_of_ne hc.1]
  · rw [if_neg (mt hcond.mp hc), if_neg hc]

/-- Taking an event leaves no arrival empty (R13). -/
theorem State.dropDue_nonempty {s : State} (h : ∀ b ∈ s.events, b ≠ []) (e : Event) : ∀ b ∈ (s.dropDue e).events, b ≠ [] := by
  unfold State.dropDue
  split
  · exact h
  · next b rest hs =>
    rw [hs] at h
    obtain ⟨-, hrest⟩ := List.forall_mem_cons.mp h
    dsimp only
    split
    · exact hrest
    · next hleft => exact List.forall_mem_cons.mpr ⟨hleft, hrest⟩

theorem State.Lawful.arrivals_nonempty {s : State} (h : s.Lawful) : ∀ b ∈ s.events, b ≠ [] := fun b hb => (h.event.1 b hb).1

/-! ### Assertions -/

theorem Channel.haltedBy_eq (ch : Channel) (line : HaltLine) :
    ch.haltedBy line =
      if groupHas ch.haltGroup line = true ∧ ch.halted = false then { parkedAtOnce ch with halted := true } else ch := by
  rw [parkedAtOnce_eq]
  exact if_congr (Channel.newlyHalted_iff ..) rfl rfl

theorem haltTold_notice {w : Event → Prop} {s : State} (h : Sound w s) (hw : ∀ e, s.waits e → w e) (line : HaltLine) (p : Port)
    (l : LeaseId) :
    (s.haltTold line).notices[p][l] =
      if s.leases[l].live = true ∧ NewlyHalted s line l ∧ s.leases[l].holder = some p then
        if s.leases[l].commitPending = true then posted (posted s.notices[p][l] .commitCancelled) .halted
        else posted s.notices[p][l] .halted
      else if HaltCompletes s line l ∧ (s.leases[l].queue.head?.map Waiter.port) = some p then
        posted s.notices[p][l] (.granted (successor s.leases[l].epoch))
      else s.notices[p][l] := by
  refine (congrFun (congrArg (·.2.2) (haltTold_leaseView h hw line l)) p).trans ?_
  by_cases hnew : s.leases[l].live = true ∧ NewlyHalted s line l
  · have hnot : ¬(HaltCompletes s line l ∧ (s.leases[l].queue.head?.map Waiter.port) = some p) := fun hc =>
      Lease.state_ne_lapsing_of_live hnew.1 hc.1.1
    rw [if_pos hnew, if_neg hnot]
    exact if_congr ⟨fun hh => ⟨hnew.1, hnew.2, hh⟩, fun hh => hh.2.2⟩ rfl rfl
  · have hnot : ¬(s.leases[l].live = true ∧ NewlyHalted s line l ∧ s.leases[l].holder = some p) := fun hh =>
      hnew ⟨hh.1, hh.2.1⟩
    rw [if_neg hnew, if_neg hnot]
    by_cases hc : HaltCompletes s line l
    · rw [if_pos hc]
      exact if_congr ⟨fun hh => ⟨hc, hh⟩, And.right⟩ rfl rfl
    · have hnot : ¬(HaltCompletes s line l ∧ (s.leases[l].queue.head?.map Waiter.port) = some p) := fun hh => hc hh.1
      rw [if_neg hc, if_neg hnot]
      rfl

end Sys2Proof.Machine

namespace Sys2Proof.Claims

open Sys2Proof.Machine

/-- The take of a due assertion, from any state of the invariant whose arrivals are not empty. -/
theorem haltAsserted_shows {w : Event → Prop} {s t : State} (h : Sound w s) (hw : ∀ e, s.waits e → w e)
    (hnonempty : ∀ b ∈ s.events, b ≠ []) (line : HaltLine) (ht : t = s.haltAsserted line) :
    t.haltTaken = s.haltTaken.put line true ∧
      (∀ c : ChannelId,
        t.channels[c] =
          if groupHas s.channels[c].haltGroup line = true ∧ s.channels[c].halted = false then
            { parkedAtOnce s.channels[c] with halted := true }
          else s.channels[c]) ∧
      (∀ l : LeaseId,
        t.leases[l] =
          if s.leases[l].live = true ∧ NewlyHalted s line l then { s.leases[l] with commitPending := false }
          else if HaltCompletes s line l then handedOn s.leases[l]
          else s.leases[l]) ∧
      (∀ l : LeaseId,
        t.deadlines[l] = if HaltCompletes s line l then handedDeadline s s.leases[l] else s.deadlines[l]) ∧
      (∀ (p : Port) (l : LeaseId),
        t.notices[p][l] =
          if s.leases[l].live = true ∧ NewlyHalted s line l ∧ s.leases[l].holder = some p then
            if s.leases[l].commitPending = true then posted (posted s.notices[p][l] .commitCancelled) .halted
            else posted s.notices[p][l] .halted
          else if HaltCompletes s line l ∧ (s.leases[l].queue.head?.map Waiter.port) = some p then
            posted s.notices[p][l] (.granted (successor s.leases[l].epoch))
          else s.notices[p][l]) ∧
      AttnAfterPosts s t ∧
      t.events =
        (if s.haltSampled.get line ≠ true ∧ ∀ b ∈ s.events, ∀ e ∈ b, e.isChangeOf line = false then
          s.events ++ [[.haltChange line (!true)]]
        else s.events) ∧
      t.slots = s.slots ∧ t.ports = s.ports ∧ t.now = s.now ∧ t.arbiter = s.arbiter ∧ t.haltSampled = s.haltSampled ∧
      t.pending = s.pending := by
  subst ht
  obtain ⟨hchannels, -, hslots, hevents, hnow, htaken, hsampled, hports, harbiter, hpending, -, hattn⟩ :=
    afterHalt_haltTold h hw line
  have hevents : (s.haltTold line).events = s.events :=
    hevents.elim id fun he => he.trans (List.filter_eq_self.mpr fun b hb => bne_iff_ne.mpr (hnonempty b hb))
  have hraised := State.raiseHaltChange_events (s := s.haltTold line) (line := line) (by rw [htaken, HaltLevels.get_put])
  rw [hevents, hsampled] at hraised
  rw [State.haltAsserted_eq_told]
  refine ⟨?_, fun c => ?_, fun l => ?_, fun l => ?_, fun p l => ?_, ?_, hraised, ?_⟩
  all_goals rw [State.raiseHaltChange_eq]
  · exact htaken
  · rw [← Channel.haltedBy_eq]; exact hchannels c
  · exact haltTold_lease h hw line l
  · exact haltTold_deadline h hw line l
  · exact haltTold_notice h hw line p l
  · exact hattn
  · exact ⟨hslots, hports, hnow, harbiter, hsampled, hpending⟩

/-- Settles O22: the two walks, lease by lease, from the state in which the taken event is gone. -/
theorem haltAssertionMarksParksAndCancels : Obligations.HaltAssertionMarksParksAndCancels := by
  intro s line hlawful hdue
  have hexec : exec (.haltAssertion line) s = .next ((s.dropDue (.haltChange line true)).haltAsserted line) :=
    congrArg Host.Outcome.next (State.takeEvent_of_due hdue _)
  have hshows := haltAsserted_shows (hlawful.sound.dropDue (.haltChange line true)) (fun e => (s.waits_dropDue _ e).1)
    (s.dropDue_nonempty hlawful.arrivals_nonempty _) line rfl
  rw [s.dropDue_eq] at hshows
  rw [s.dropDue_eq] at hexec
  exact ⟨_, hexec, hshows⟩

end Sys2Proof.Claims

namespace Sys2Proof.Machine

open Sys2Proof.Claims

/-! ### Releases -/

/-- The state is `u` after posts, of which the take that began at `s` has made no other. -/
structure PostedSince (s u t : State) : Prop where
  rest : t = { u with notices := t.notices, attn := t.attn }
  posted : OnlyPosted s t

theorem PostedSince.post {s u t : State} (h : PostedSince s u t) (p : Port) (l : LeaseId) (k : Post) :
    PostedSince s u (t.post p l k) := by
  obtain ⟨hrest, hposted⟩ := h
  refine ⟨?_, hposted.post p l k⟩
  rw [State.post, hrest]

theorem PostedSince.postHolder {s u t : State} (h : PostedSince s u t) (l : LeaseId) (k : Post) :
    PostedSince s u (t.postHolder l k) := by
  unfold State.postHolder
  split
  · exact h.post ..
  · exact h

theorem PostedSince.leases {s u t : State} (h : PostedSince s u t) : t.leases = u.leases := by rw [h.rest]

theorem PostedSince.channels {s u t : State} (h : PostedSince s u t) : t.channels = u.channels := by rw [h.rest]

theorem releaseNoticeStep_keeps {s u : State} (before : State) (l : LeaseId) (t : State) (ht : PostedSince s u t) :
    PostedSince s u (releaseNoticeStep before l t) := by
  unfold releaseNoticeStep
  split
  · exact ht.postHolder ..
  · exact ht

theorem Channel.newlyReleased_iff (ch : Channel) (h : HaltLevels) :
    ch.newlyReleased h = true ↔ ch.halted = true ∧ (ch.releasedAt h).halted = false := by
  rw [Channel.releasedAt_eq, Channel.newlyReleased, Bool.and_eq_true, Bool.not_eq_true']
  refine and_congr_right fun hh => ?_
  rw [hh, Bool.true_and]

/-- The state after the channels of a release, before its notices (R117). -/
def State.marksReleased (s : State) (line : HaltLine) : State := (s.lineTaken line false).releaseChannels

theorem marksReleased_get (s : State) (line : HaltLine) (c : ChannelId) :
    (s.marksReleased line).channels[c] = s.channels[c].releasedAt (s.haltTaken.put line false) := State.releaseChannels_get ..

theorem marksReleased_eq (s : State) (line : HaltLine) :
    s.marksReleased line =
      { s with haltTaken := s.haltTaken.put line false, channels := (s.marksReleased line).channels } := by
  simp only [State.marksReleased, State.releaseChannels, State.mapChannels]
  rfl

/-- What a release posts about one lease (R118). -/
theorem releaseNoticeStep_notice {s t : State} {line : HaltLine} {l : LeaseId} (ht : PostedSince s (s.marksReleased line) t)
    {p : Port} (hnotice : t.notices[p][l] = s.notices[p][l]) :
    (releaseNoticeStep (s.lineTaken line false) l t).notices[p][l] =
      if s.leases[l].live = true ∧ s.leases[l].holder = some p ∧ AllReleased s (s.marksReleased line) l then
        posted s.notices[p][l] .haltCleared
      else s.notices[p][l] := by
  have hleases : t.leases = s.leases := ht.leases.trans (by rw [marksReleased_eq])
  have hcond : (t.leases[l].live && (s.lineTaken line false).anyInLease l (fun c =>
      (s.lineTaken line false).channels[c].newlyReleased (s.lineTaken line false).haltTaken) && !t.anyHalted l) = true ↔
        s.leases[l].live = true ∧ AllReleased s (s.marksReleased line) l := by
    have hin (c : ChannelId) : t.inLease l c = s.inLease l c := State.inLease_congr (by rw [hleases]) c
    rw [Bool.and_eq_true, Bool.and_eq_true, Bool.not_eq_true', State.anyHalted_eq_false_iff, State.anyInLease_iff, and_assoc,
      hleases]
    refine and_congr_right fun _ => and_congr (exists_congr fun c => and_congr_right fun _ => ?_) (forall_congr' fun c => ?_)
    · rw [marksReleased_get]
      exact Channel.newlyReleased_iff ..
    · rw [hin, ht.channels]
  unfold releaseNoticeStep
  by_cases hc : s.leases[l].live = true ∧ AllReleased s (s.marksReleased line) l
  · rw [if_pos (hcond.mpr hc)]
    obtain ⟨hlive, hall⟩ := hc
    cases hh : s.leases[l].holder with
    | none =>
      have hsame : t.postHolder l .haltCleared = t := by rw [State.postHolder, hleases, hh]
      rw [hsame, hnotice, if_neg fun h => nomatch h.2.1]
    | some q =>
      rw [State.postHolder_of_holder (p := q) (by rw [hleases]; exact hh), State.post_notices_same, hnotice]
      exact if_congr ⟨fun hpq => ⟨hlive, congrArg some hpq.symm, hall⟩, fun h => (Option.some.inj h.2.1).symm⟩ rfl rfl
  · rw [if_neg (mt hcond.mp hc), hnotice, if_neg fun h => hc ⟨h.1, h.2.2⟩]

end Sys2Proof.Machine

namespace Sys2Proof.Claims

open Sys2Proof.Machine

/-- The take of a due release. -/
theorem haltReleased_shows {s t : State} (line : HaltLine) (ht : t = s.haltReleased line) :
    t.haltTaken = s.haltTaken.put line false ∧
      (∀ c : ChannelId,
        t.channels[c] =
          { s.channels[c] with
            halted := s.channels[c].halted && haltCondition s.channels[c].haltGroup (s.haltTaken.put line false) }) ∧
      (∀ (p : Port) (l : LeaseId),
        t.notices[p][l] =
          if s.leases[l].live = true ∧ s.leases[l].holder = some p ∧ AllReleased s t l then
            posted s.notices[p][l] .haltCleared
          else s.notices[p][l]) ∧
      AttnAfterPosts s t ∧
      t.events =
        (if s.haltSampled.get line ≠ false ∧ ∀ b ∈ s.events, ∀ e ∈ b, e.isChangeOf line = false then
          s.events ++ [[.haltChange line (!false)]]
        else s.events) ∧
      t.leases = s.leases ∧ t.deadlines = s.deadlines ∧ t.slots = s.slots ∧ t.ports = s.ports ∧ t.now = s.now ∧
      t.arbiter = s.arbiter ∧ t.haltSampled = s.haltSampled ∧ t.pending = s.pending := by
  subst ht
  have hstart : PostedSince s (s.marksReleased line) (s.marksReleased line) :=
    ⟨rfl, (OnlyPosted.refl s).congr (by rw [marksReleased_eq]) (by rw [marksReleased_eq])⟩
  have hwalk : PostedSince s (s.marksReleased line)
      ((s.marksReleased line).eachLease (releaseNoticeStep (s.lineTaken line false))) :=
    State.eachLease_induct _ hstart (releaseNoticeStep_keeps _)
  have hnotices (p : Port) (l : LeaseId) :
      ((s.marksReleased line).eachLease (releaseNoticeStep (s.lineTaken line false))).notices[p][l] =
        if s.leases[l].live = true ∧ s.leases[l].holder = some p ∧ AllReleased s (s.marksReleased line) l then
          posted s.notices[p][l] .haltCleared
        else s.notices[p][l] := by
    obtain ⟨t, ht, hsame, hend⟩ := State.eachLease_observe (fun t => t.notices[p][l]) (PostedSince s (s.marksReleased line))
      (releaseNoticeStep_keeps (s.lineTaken line false)) l
      (fun l' t hne _ => (releaseNoticeStep_localTo (s.lineTaken line false) l' t).notices p l hne.symm) hstart
    exact hend.trans (releaseNoticeStep_notice ht (hsame.trans (by rw [marksReleased_eq])))
  have heq : s.haltReleased line =
      ((s.marksReleased line).eachLease (releaseNoticeStep (s.lineTaken line false))).raiseHaltChange line := rfl
  rw [heq]
  generalize (s.marksReleased line).eachLease (releaseNoticeStep (s.lineTaken line false)) = t at hwalk hnotices
  obtain ⟨hrest, -, hattn⟩ := hwalk
  rw [marksReleased_eq] at hrest
  have hevents : t.events = s.events := by rw [hrest]
  have hsampled : t.haltSampled = s.haltSampled := by rw [hrest]
  have hchannels : t.channels = (s.marksReleased line).channels := by rw [hrest]
  have hraised := State.raiseHaltChange_events (s := t) (line := line) (by rw [hrest, HaltLevels.get_put])
  rw [hevents, hsampled] at hraised
  refine ⟨?_, fun c => ?_, fun p l => ?_, ?_, hraised, ?_⟩
  all_goals rw [State.raiseHaltChange_eq]
  · rw [hrest]
  · dsimp only
    rw [hchannels, marksReleased_get, Channel.releasedAt_eq]
  · dsimp only [AllReleased]
    rw [hnotices p l, hchannels]
  · exact hattn
  · refine ⟨?_, ?_, ?_, ?_, ?_, ?_, ?_, ?_⟩ <;> rw [hrest]

/-- Settles O23: the marks, then a walk that only posts, from the state in which the taken event is gone. -/
theorem haltReleaseClearsMarks : Obligations.HaltReleaseClearsMarks := by
  intro s line hdue
  have hexec : exec (.haltRelease line) s = .next ((s.dropDue (.haltChange line false)).haltReleased line) :=
    congrArg Host.Outcome.next (State.takeEvent_of_due hdue _)
  have hshows := haltReleased_shows (s := s.dropDue (.haltChange line false)) line rfl
  rw [s.dropDue_eq] at hshows
  rw [s.dropDue_eq] at hexec
  exact ⟨_, hexec, hshows⟩

end Sys2Proof.Claims
end

section
/-! SUPPORT. RELEASE and REVOKE, as whole-state equations. -/

namespace Sys2Proof.Machine

open Sys2Proof.Claims

/-! ### What a lapse leaves PARKING -/

theorem Channel.lapsed_parking_iff {ch : Channel} (hnot : ch.state ≠ .parking) (reason : LapseReason) :
    (ch.lapsed (reason == .revoked)).state = .parking ↔
      reason ≠ .revoked ∧ ch.state = .running ∧ ch.parkTiming = .atPeriodEnd := by
  constructor
  · intro hp
    obtain hparked | ⟨-, hfalse, hrun⟩ := ch.lapsed_state (reason == .revoked)
    · cases hparked.symm.trans hp
    · exact ⟨beq_eq_false_iff_ne.mp hfalse, hrun.resolve_right hnot⟩
  · rintro ⟨hreason, hrun, htiming⟩
    rw [Channel.lapsed, hrun, beq_false_of_ne hreason, htiming]
    rfl

/-- The channels of a live lease left PARKING are those its lapse finds RUNNING with park timing AT_PERIOD_END (R56). -/
theorem leftParking_iff {w : Event → Prop} {s : State} (h : Sound w s) {l : LeaseId} (hlive : s.leases[l].live = true)
    (reason : LapseReason) : LeftParking s l reason ↔ LeavesParking s l reason := by
  constructor
  · rintro ⟨c, hc, hp⟩
    obtain ⟨hreason, hrun, htiming⟩ := (Channel.lapsed_parking_iff (h.not_parking_of_live hlive hc) reason).mp hp
    exact ⟨hreason, c, hc, hrun, htiming⟩
  · rintro ⟨hreason, c, hc, hrun, htiming⟩
    exact ⟨c, hc, (Channel.lapsed_parking_iff (h.not_parking_of_live hlive hc) reason).mpr ⟨hreason, hrun, htiming⟩⟩

/-! ### Codes -/

theorem leaseStateCode_eq (st : LeaseState) : leaseStateCode st = st.byte := by cases st <;> rfl

theorem ownerCode_eq_holderByte (p : Option Port) : ownerCode p = holderByte p := by cases p <;> rfl

end Sys2Proof.Machine

namespace Sys2Proof.Claims

open Sys2Proof.Machine

/-- The channels of a lease lapsed, as the statements write them. -/
theorem mapLease_lapsedChannel (s : State) (l : LeaseId) (reason : LapseReason) :
    (mapLease s l fun ch => ch.lapsed (reason == .revoked)) =
      { s with channels := Vector.ofFn fun c : Fin 16 =>
          if s.inLease l c then lapsedChannel s.channels[c] reason else s.channels[c] } := by
  simp only [lapsedChannel_eq]
  rfl

/-- The same, with the lease rewritten over them. -/
theorem rewritten_mapLease (s : State) (l : LeaseId) (reason : LapseReason) (r : Lease) (d : Option Deadline) :
    rewritten (mapLease s l fun ch => ch.lapsed (reason == .revoked)) l r d =
      { s with
        leases := s.leases.set l.val r
        deadlines := s.deadlines.set l.val d
        events := withdrawn s l
        slots := purgedSlots s l
        channels := Vector.ofFn fun c : Fin 16 =>
          if s.inLease l c then lapsedChannel s.channels[c] reason else s.channels[c] } := by
  have hslots : purgedSlots (mapLease s l fun ch => ch.lapsed (reason == .revoked)) l = purgedSlots s l :=
    purgedSlots_congr (by rw [mapLease]) (by rw [mapLease])
  simp only [rewritten, hslots, lapsedChannel_eq]
  simp only [mapLease, withdrawn]

/-- The channels of a lease parked, as the statements write them. -/
theorem parkLease_eq (s : State) (l : LeaseId) :
    s.parkLease l =
      { s with channels := Vector.ofFn fun c : Fin 16 =>
          if s.inLease l c then parkedAtOnce s.channels[c] else s.channels[c] } := by
  simp only [parkedAtOnce_eq]
  rfl

/-- A lapse at once parks every channel (R56, R63). -/
theorem mapLease_revoked (s : State) (l : LeaseId) :
    (mapLease s l fun ch => ch.lapsed (LapseReason.revoked == .revoked)) = s.parkLease l := by
  have hlapsed (ch : Channel) : ch.lapsed (LapseReason.revoked == .revoked) = ch.parked := by
    rw [beq_self_eq_true, Channel.lapsed]
    cases hs : ch.state with
    | running => rfl
    | ended => rfl
    | parking => rfl
    | parked => exact (Channel.parked_of_parked hs).symm
  simp only [hlapsed]
  rfl

/-! ### RELEASE -/

/-- Past the holder checks, RELEASE lapses the lease (R62). -/
theorem exec_release_of_mayAct {s : State} {p : Port} {tag : Byte} {l : LeaseId} {e : Word16}
    (htakes : Takes s p tag (.release l e)) (hmay : MayAct s p l e true) :
    exec .release s =
      .next (answered (s.lapse l .released) p tag .ok [countByte ((s.lapseStart l .released).countInState l .parking)]) := by
  have hexec : exec .release s = .next (s.answer p tag (s.judgeRelease p l e)) := exec_of_takes htakes
  rw [hexec, State.judgeRelease, ← List.append_nil (s.holderChecks p l e true), checked_holderChecks_of_mayAct hmay]
  rfl

/-- The number RELEASE answers (R62). -/
theorem releasedCount_eq {w : Event → Prop} {s : State} (h : Sound w s) {l : LeaseId} (hlive : s.leases[l].live = true) :
    (s.lapseStart l .released).countInState l .parking =
      (channelIds.filter fun c =>
        s.inLease l c && s.channels[c].state == .running && s.channels[c].parkTiming == .atPeriodEnd).length := by
  unfold State.countInState countChannels
  congr 1
  refine List.filter_congr fun c _ => ?_
  rw [State.lapseStart_inLease, State.lapseStart_channels_get]
  cases hc : s.inLease l c with
  | false => rfl
  | true =>
    have hiff := Channel.lapsed_parking_iff (h.not_parking_of_live hlive hc) .released
    rw [if_pos rfl, Bool.true_and, Bool.true_and, Bool.eq_iff_iff, Bool.and_eq_true]
    simp only [beq_iff_eq, hiff]
    exact and_iff_right (by decide)

/-- Settles O37: RELEASE is a lapse, which leaves the lease LAPSING or hands it on. -/
theorem releaseLapsesTheLease : Obligations.ReleaseLapsesTheLease := by
  intro s p tag l e hlawful htakes hmay
  have h := hlawful.sound
  obtain ⟨hlive, -⟩ := (Lease.heldBy_iff ..).mp hmay.1
  have htold : lapseTold s l .released = mapLease s l fun ch => ch.lapsed (LapseReason.released == .revoked) := rfl
  obtain ⟨hleft, hover⟩ := lapse_eq s l .released
  dsimp only
  rw [exec_release_of_mayAct htakes hmay, releasedCount_eq h hlive, ← mapLease_lapsedChannel, ← htold]
  by_cases hparking : LeavesParking s l .released
  · rw [hleft ((leftParking_iff h hlive _).mpr hparking), if_pos hparking, htold, rewritten_mapLease]
    rfl
  · rw [hover (mt (leftParking_iff h hlive _).mp hparking), if_neg hparking]
    rfl

/-! ### REVOKE -/

/-- REVOKE from the supervisor port is judged by the lease's state alone (R63, R64). -/
theorem judgeRevoke_supervisor (s : State) (l : LeaseId) :
    s.judgeRevoke 0 l =
      if s.leases[l].state = .undefined then .refuse .notDefined
      else if s.leases[l].state = .vacant then .refuse .notHeld
      else .accept .ok ((s.revoked l).revokeBody l) (s.revoked l) := by
  simp only [State.judgeRevoke, checked_cons, checked_nil, supervisorCheck, supervisor, State.definedCheck, bne_self_eq_false,
    Bool.false_eq_true, if_false, beq_iff_eq]

theorem revokeBody_of_lease {s : State} {l : LeaseId} {r : Lease} (h : s.leases[l] = r) :
    s.revokeBody l = [leaseStateCode r.state, ownerCode r.holder] ++ wordBytes r.epoch := by
  rw [State.revokeBody, h, leaseStateCode_eq, ownerCode_eq_holderByte]

theorem handedOver_lease (s : State) (l : LeaseId) : (handedOver s l).leases[l] = handedOn s.leases[l] :=
  congrArg Prod.fst (handedOver_leaseView s l)

/-- A REVOKE of a live lease hands it on, its channels parked and its holder told (R63). -/
theorem revoked_live {s : State} {l : LeaseId} {p : Port} (hlive : s.leases[l].live = true)
    (hholder : s.leases[l].holder = some p) :
    s.revoked l = handedOver ((s.parkLease l).post p l (.lapsed .revoked)) l := by
  have hnot : ¬LeftParking s l .revoked := by
    rintro ⟨c, -, hp⟩
    obtain hparked | ⟨-, hfalse, -⟩ := s.channels[c].lapsed_state (LapseReason.revoked == .revoked)
    · cases hparked.symm.trans hp
    · cases hfalse
  rw [State.revoked, if_pos hlive, (lapse_eq s l .revoked).2 hnot, lapseTold_of_holder hholder, mapLease_revoked]
  rfl

/-- Settles O31: REVOKE hands the lease on from its channels parked, whatever the state it was lapsed from. -/
theorem revokeHandsTheLeaseOnAtOnce : Obligations.RevokeHandsTheLeaseOnAtOnce := by
  intro s tag l hlawful htakes
  have hr := (hlawful.sound.lease l).record
  have hexec : exec .revoke s = .next (s.answer 0 tag (s.judgeRevoke 0 l)) := exec_of_takes htakes
  dsimp only
  rw [hexec, judgeRevoke_supervisor, ← parkLease_eq]
  refine ⟨fun hs => ?_, fun hs => ?_, fun hs => ?_, fun hlive => ?_⟩
  · rw [if_pos hs]
    rfl
  · rw [if_neg (by rw [hs]; decide), if_pos hs]
    rfl
  · have hover := revoked_lapsing hr hs
    have hlease : (s.revoked l).leases[l] = handedOn s.leases[l] := by
      rw [hover, handedOver_lease, State.parkLease_leases]
    rw [if_neg (by rw [hs]; decide), if_neg (by rw [hs]; decide), revokeBody_of_lease hlease, hover]
    rfl
  · obtain ⟨p, hholder⟩ := hr.holder_of_live hlive
    have hover := revoked_live hlive hholder
    have hlease : (s.revoked l).leases[l] = handedOn s.leases[l] := by
      rw [hover, handedOver_lease, State.post_leases, State.parkLease_leases]
    refine ⟨p, hholder, ?_⟩
    rw [if_neg (Lease.state_ne_undefined_of_live hlive), if_neg (Lease.state_ne_vacant_of_live hlive),
      revokeBody_of_lease hlease, hover]
    rfl

end Sys2Proof.Claims
end

section
/-! SUPPORT. DEPARTURE and RESET_LEASES: what a walk over all the leases shows in the end. -/

namespace Sys2Proof.Machine

open Sys2Proof.Claims

/-! ### Walks -/

/-- What one step of a walk reaches and every step keeps stands in the end. -/
theorem State.eachLease_reaches {f : LeaseId → State → State} {P Q : State → Prop} (hP : ∀ l t, P t → P (f l t))
    (hstay : ∀ l t, Q t → Q (f l t)) (l : LeaseId) (hreach : ∀ t, P t → Q (f l t)) {s : State} (hs : P s) :
    Q (s.eachLease f) := by
  have hkeep (ls : List LeaseId) (t : State) (ht : Q t) : Q (ls.foldl (fun t l => f l t) t) := by
    induction ls generalizing t with
    | nil => exact ht
    | cons x rest ih => exact ih _ (hstay x t ht)
  have hwalk (ls : List LeaseId) (hl : l ∈ ls) (t : State) (ht : P t) : Q (ls.foldl (fun t l => f l t) t) := by
    induction ls generalizing t with
    | nil => cases hl
    | cons x rest ih =>
      obtain rfl | hrest := List.mem_cons.mp hl
      · exact hkeep rest _ (hreach t ht)
      · exact ih hrest _ (hP x t ht)
  exact hwalk leaseIds (mem_leaseIds l) s hs

theorem any_congr_of_mem {α : Type} {xs : List α} {p q : α → Bool} (h : ∀ x ∈ xs, p x = q x) : xs.any p = xs.any q := by
  rw [Bool.eq_iff_iff, List.any_eq_true, List.any_eq_true]
  exact exists_congr fun x => and_congr_right fun hx => by rw [h x hx]

theorem foldl_withdraws {f : LeaseId → State → State} {q : Lease → Bool} (hlocal : ∀ l t, LocalTo l t (f l t))
    (hevents : ∀ l t, (f l t).events = if q t.leases[l] then withoutEvents (fun e => e.isExpiryOf l) t.events else t.events)
    (ls : List LeaseId) (hnodup : ls.Nodup) (s : State) :
    (ls.foldl (fun t l => f l t) s).events =
      if ls.any fun l => q s.leases[l] then withoutEvents (fun e => ls.any fun l => q s.leases[l] && e.isExpiryOf l) s.events
      else s.events := by
  induction ls generalizing s with
  | nil => rfl
  | cons x rest ih =>
    obtain ⟨hx, hrest⟩ := List.nodup_cons.mp hnodup
    have hsame (l : LeaseId) (hl : l ∈ rest) : (f x s).leases[l] = s.leases[l] :=
      (hlocal x s).leases l fun heq => hx (heq ▸ hl)
    have hany : (rest.any fun l => q (f x s).leases[l]) = rest.any fun l => q s.leases[l] :=
      any_congr_of_mem fun l hl => by rw [hsame l hl]
    have hevent (e : Event) : (rest.any fun l => q (f x s).leases[l] && e.isExpiryOf l) =
        rest.any fun l => q s.leases[l] && e.isExpiryOf l := any_congr_of_mem fun l hl => by rw [hsame l hl]
    rw [List.foldl_cons, ih hrest, hany, hevents]
    simp only [hevent, List.any_cons]
    by_cases hq : q s.leases[x] = true
    swap
    · simp only [hq, Bool.false_or, Bool.false_and, Bool.false_eq_true, if_false]
    · simp only [hq, Bool.true_or, Bool.true_and, if_true, withoutEvents_withoutEvents]
      split
      · rfl
      · next hnone =>
        have hnone (e : Event) : (rest.any fun l => q s.leases[l] && e.isExpiryOf l) = false := by
          refine List.any_eq_false.mpr fun l hl => ?_
          rw [eq_false_of_ne_true (List.any_eq_false.mp (eq_false_of_ne_true hnone) l hl), Bool.false_and]
          exact Bool.false_ne_true
        simp only [hnone, Bool.or_false]

/-- A walk that withdraws the expiries of the leases that satisfy a condition withdraws them all (R46). -/
theorem State.eachLease_withdraws {f : LeaseId → State → State} {q : Lease → Bool} (hlocal : ∀ l t, LocalTo l t (f l t))
    (hevents : ∀ l t, (f l t).events = if q t.leases[l] then withoutEvents (fun e => e.isExpiryOf l) t.events else t.events)
    (s : State) :
    (s.eachLease f).events =
      if leaseIds.any fun l => q s.leases[l] then
        withoutEvents (fun e => leaseIds.any fun l => q s.leases[l] && e.isExpiryOf l) s.events
      else s.events := foldl_withdraws hlocal hevents leaseIds (by decide) s

theorem OnlyPosted.attn_iff {s t : State} (h : OnlyPosted s t) {p : Port} (hs : s.attn[p] = !noticeSetEmpty s.notices[p]) :
    t.attn[p] = true ↔ ∃ l : LeaseId, t.notices[p][l] ≠ none := by
  rw [h.attn p]
  by_cases hempty : ∀ l : LeaseId, s.notices[p][l] = none
  · have hattn : s.attn[p] = false := by rw [hs, (noticeSetEmpty_iff _).mpr hempty]; rfl
    by_cases hsome : ∃ l : LeaseId, t.notices[p][l] ≠ none
    · rw [if_pos ⟨hempty, hsome⟩]
      exact iff_of_true rfl hsome
    · rw [if_neg fun hc => hsome hc.2, hattn]
      exact iff_of_false Bool.false_ne_true hsome
  · have hattn : s.attn[p] = true := by
      rw [hs, eq_false_of_ne_true (mt (noticeSetEmpty_iff _).mp hempty)]
      rfl
    rw [if_neg fun hc => hempty hc.1, hattn]
    obtain ⟨l, hl⟩ := not_forall.mp hempty
    exact iff_of_true rfl ⟨l, fun hnone => hl (h.kept p l hnone)⟩

/-! ### One lease's outputs -/

/-- What a state shows of the channels and slots of one lease. -/
def State.outputView (s : State) (l : LeaseId) (c : ChannelId) : Option (Channel × Option StagedSet) :=
  if s.inLease l c then some (s.channels[c], s.slots[c]) else none

theorem State.outputView_of_inLease {s : State} {l : LeaseId} {c : ChannelId} (h : s.inLease l c = true) :
    s.outputView l c = some (s.channels[c], s.slots[c]) := if_pos h

theorem LocalTo.outputView {l l' : LeaseId} {s t : State} (h : LocalTo l' s t)
    (hout : ∀ c : ChannelId, s.inLease l c = true → s.inLease l' c = false) : t.outputView l = s.outputView l := by
  funext c
  unfold State.outputView
  rw [h.inLease]
  cases hc : s.inLease l c with
  | false => rfl
  | true => rw [h.channels c (hout c hc), h.slots c (hout c hc)]

/-! ### The lease of a departing port -/

theorem State.modLease_self {s : State} {l : LeaseId} {f : Lease → Lease} (h : f s.leases[l] = s.leases[l]) :
    s.modLease l f = s := by
  rw [State.modLease, h]
  have hset : s.leases.set l.val s.leases[l] = s.leases := vector_ext_fin fun l' => by
    rw [getElem_set_fin]
    split
    · next heq => rw [heq]
    · rfl
  rw [hset]

/-- The holder has no entry to take out (R25). -/
theorem Lease.Sound.queueWithout_of_heldBy {r : Lease} (h : r.Sound) {p : Port} (hheld : r.heldBy p = true) :
    r.queueWithout p = r.queue := by
  obtain ⟨-, hholder⟩ := h.queue
  refine List.filter_eq_self.mpr fun x hx => ?_
  exact bne_iff_ne.mpr ((Lease.entryOf_eq_none_iff ..).mp (hholder p hheld) x hx)

/-- What a departure does to a lease that the port holds, and to one that it does not (R42, R66). -/
theorem departLease_eq {s : State} {p : Port} {l : LeaseId} (hr : s.leases[l].Sound) :
    s.departLease p l =
      if s.leases[l].heldBy p then s.lapse l .departed
      else s.modLease l fun r => { r with queue := r.queueWithout p } := by
  have hheldBy : (s.modLease l fun r => { r with queue := r.queueWithout p }).leases[l].heldBy p = s.leases[l].heldBy p := by
    rw [State.modLease_get, if_pos rfl]
    rfl
  unfold State.departLease
  dsimp only
  rw [hheldBy]
  split
  · next hheld =>
    have hself : ({ s.leases[l] with queue := s.leases[l].queueWithout p } : Lease) = s.leases[l] := by
      rw [hr.queueWithout_of_heldBy hheld]
    rw [State.modLease_self hself]
  · rfl

theorem State.lapse_slots_get (s : State) (l : LeaseId) (reason : LapseReason) (c : ChannelId) (hc : s.inLease l c = true) :
    (s.lapse l reason).slots[c] = none := by
  obtain ⟨hleft, hover⟩ := lapse_eq s l reason
  have hpurged : (purgedSlots (lapseTold s l reason) l)[c] = none := by
    rw [purgedSlots, getElem_ofFn_fin, (lapseTold_localTo s l reason).inLease, if_pos hc]
  by_cases hparking : LeftParking s l reason
  · rw [hleft hparking]
    exact hpurged
  · have hslots : (handedOver (lapseTold s l reason) l).slots = purgedSlots (lapseTold s l reason) l := by
      rw [handedOver_eq]
      split <;> rfl
    rw [hover hparking, hslots]
    exact hpurged

theorem lapseTold_departed (s : State) (l : LeaseId) :
    lapseTold s l .departed = mapLease s l fun ch => ch.lapsed (LapseReason.departed == .revoked) := by
  rw [lapseTold]
  exact if_neg Bool.false_ne_true

/-- What a lease shows after a lapse that tells its holder nothing (R55, R61). -/
theorem lapse_departed_leaseView {w : Event → Prop} {s : State} (h : Sound w s) {l : LeaseId} (hlive : s.leases[l].live = true) :
    (s.lapse l .departed).leaseView l =
      if LeavesParking s l .departed then (lapsingRecord s.leases[l] .departed, none, fun q => s.notices[q][l])
      else
        (handedOn s.leases[l], handedDeadline s s.leases[l], fun q =>
          if (s.leases[l].queue.head?.map Waiter.port) = some q then
            posted s.notices[q][l] (.granted (successor s.leases[l].epoch))
          else s.notices[q][l]) := by
  obtain ⟨hleft, hover⟩ := lapse_eq s l .departed
  rw [lapseTold_departed] at hleft hover
  by_cases hparking : LeavesParking s l .departed
  · rw [hleft ((leftParking_iff h hlive _).mpr hparking), if_pos hparking]
    unfold State.leaseView
    rw [rewritten_lease, rewritten, getElem_set_fin, if_pos rfl, mapLease]
  · rw [hover (mt (leftParking_iff h hlive _).mp hparking), if_neg hparking, handedOver_leaseView, mapLease]
    rfl

/-- What every step of a departure keeps (R67). -/
structure AfterDepart (s t : State) : Prop where
  sound : Sound t.waits t
  defn : ∀ l : LeaseId, t.leases[l].defn = s.leases[l].defn
  now : t.now = s.now
  haltTaken : t.haltTaken = s.haltTaken
  haltSampled : t.haltSampled = s.haltSampled
  ports : t.ports = s.ports
  arbiter : t.arbiter = s.arbiter
  pending : t.pending = s.pending
  posted : OnlyPosted s t
  idle : ∀ c : ChannelId, (∀ l : LeaseId, s.inLease l c = false) → t.channels[c] = s.channels[c] ∧ t.slots[c] = s.slots[c]

theorem LocalTo.defn_all {l : LeaseId} {s t : State} (h : LocalTo l s t) (l' : LeaseId) :
    t.leases[l'].defn = s.leases[l'].defn := by
  by_cases heq : l' = l
  · subst heq; exact h.defn
  · rw [h.leases l' heq]

theorem OnlyPosted.lapse_departed {s t : State} (h : OnlyPosted s t) (l : LeaseId) : OnlyPosted s (t.lapse l .departed) := by
  obtain ⟨hleft, hover⟩ := lapse_eq t l .departed
  have htold : OnlyPosted s (lapseTold t l .departed) := by
    rw [lapseTold_departed]
    exact h.congr (by rw [mapLease]) (by rw [mapLease])
  generalize lapseTold t l .departed = u at *
  by_cases hparking : LeftParking t l .departed
  · rw [hleft hparking]
    exact htold.congr rfl rfl
  · rw [hover hparking]
    exact htold.handedOver l

theorem departLease_keeps (p : Port) (s : State) (l : LeaseId) (t : State) (ht : AfterDepart s t) :
    AfterDepart s (t.departLease p l) := by
  obtain ⟨hsound, hdefn, hnow, htaken, hsampled, hports, harbiter, hpending, hposted, hidle⟩ := ht
  have hl := t.departLease_localTo p l
  refine ⟨hsound.departLease p l, fun l' => (hl.defn_all l').trans (hdefn l'), hl.now.trans hnow, hl.haltTaken.trans htaken,
    hl.haltSampled.trans hsampled, hl.ports.trans hports, hl.arbiter.trans harbiter, hl.pending.trans hpending, ?_,
    fun c hc => ?_⟩
  · rw [departLease_eq (hsound.lease l).record]
    split
    · exact hposted.lapse_departed l
    · exact hposted.congr rfl rfl
  · obtain ⟨hchannel, hslot⟩ := hidle c hc
    have hout : t.inLease l c = false := (State.inLease_congr (hdefn l) c).trans (hc l)
    exact ⟨(hl.channels c hout).trans hchannel, (hl.slots c hout).trans hslot⟩

theorem AfterDepart.refl {s : State} (h : Sound s.waits s) : AfterDepart s s :=
  ⟨h, fun _ => rfl, rfl, rfl, rfl, rfl, rfl, rfl, .refl s, fun _ _ => ⟨rfl, rfl⟩⟩

theorem afterDepart_walk {s : State} (h : Sound s.waits s) (p : Port) :
    AfterDepart s (s.eachLease fun l u => u.departLease p l) :=
  State.eachLease_induct _ (.refl h) (departLease_keeps p s)

/-- What a walk of departures shows of one lease is what its own step shows, from what the take found (R66, R67). -/
theorem departed_observe {s : State} (h : Sound s.waits s) (p : Port) (l : LeaseId) :
    ∃ t : State, AfterDepart s t ∧ t.leaseView l = s.leaseView l ∧ t.outputView l = s.outputView l ∧
      (s.eachLease fun l u => u.departLease p l).leaseView l = (t.departLease p l).leaseView l ∧
      (s.eachLease fun l u => u.departLease p l).outputView l = (t.departLease p l).outputView l := by
  have hother (l' : LeaseId) (t : State) (hne : l' ≠ l) (ht : AfterDepart s t) :
      ((t.departLease p l').leaseView l, (t.departLease p l').outputView l) = (t.leaseView l, t.outputView l) := by
    have hl := t.departLease_localTo p l'
    exact Prod.ext (hl.leaseView hne) (hl.outputView fun c hc => ht.sound.not_inLease_of_ne hc hne)
  obtain ⟨t, ht, hsame, hend⟩ := State.eachLease_observe (fun t => (t.leaseView l, t.outputView l)) (AfterDepart s)
    (departLease_keeps p s) l hother (s := s) (.refl h)
  obtain ⟨hlease, houtput⟩ := Prod.mk.inj hsame
  obtain ⟨hlease', houtput'⟩ := Prod.mk.inj hend
  exact ⟨t, ht, hlease, houtput, hlease', houtput'⟩

theorem leavesParking_of_outputView {s t : State} {l : LeaseId} (hview : t.outputView l = s.outputView l)
    (reason : LapseReason) : LeavesParking t l reason ↔ LeavesParking s l reason := by
  have hstep {u v : State} (huv : u.outputView l = v.outputView l) (hu : LeavesParking u l reason) :
      LeavesParking v l reason := by
    obtain ⟨hreason, c, hc, hrun, htiming⟩ := hu
    have hc' := congrFun huv c
    rw [State.outputView_of_inLease hc] at hc'
    unfold State.outputView at hc'
    split at hc'
    · next hin =>
      obtain ⟨hchannel, -⟩ := Prod.mk.inj (Option.some.inj hc')
      exact ⟨hreason, c, hin, hchannel ▸ hrun, hchannel ▸ htiming⟩
    · cases hc'
  exact ⟨hstep hview, hstep hview.symm⟩

/-- What each lease shows after a departure (R42, R66). -/
theorem departed_leaseView {s : State} (h : Sound s.waits s) (p : Port) (l : LeaseId) :
    (s.eachLease fun l u => u.departLease p l).leaseView l =
      if s.leases[l].heldBy p then
        if LeavesParking s l .departed then (lapsingRecord s.leases[l] .departed, none, fun q => s.notices[q][l])
        else
          (handedOn s.leases[l], handedDeadline s s.leases[l], fun q =>
            if (s.leases[l].queue.head?.map Waiter.port) = some q then
              posted s.notices[q][l] (.granted (successor s.leases[l].epoch))
            else s.notices[q][l])
      else
        ({ s.leases[l] with queue := s.leases[l].queueWithout p }, s.deadlines[l], fun q => s.notices[q][l]) := by
  obtain ⟨t, ht, hview, houtput, hend, -⟩ := departed_observe h p l
  have hlease : t.leases[l] = s.leases[l] := congrArg Prod.fst hview
  have hdeadline : t.deadlines[l] = s.deadlines[l] := congrArg (·.2.1) hview
  have hnotices (q : Port) : t.notices[q][l] = s.notices[q][l] := congrFun (congrArg (·.2.2) hview) q
  rw [hend, departLease_eq (ht.sound.lease l).record, hlease]
  by_cases hheld : s.leases[l].heldBy p = true
  · obtain ⟨hlive, -⟩ := (Lease.heldBy_iff ..).mp hheld
    rw [if_pos hheld, if_pos hheld, lapse_departed_leaseView ht.sound (by rw [hlease]; exact hlive), hlease,
      handedDeadline_congr ht.now rfl]
    simp only [hnotices]
    exact if_congr (leavesParking_of_outputView houtput _) rfl rfl
  · rw [if_neg hheld, if_neg hheld]
    unfold State.leaseView
    rw [State.modLease_get, if_pos rfl, State.modLease_deadlines, hlease, hdeadline]
    simp only [State.modLease_notices, hnotices]

/-- What a channel of a lease shows after a departure (R56, R66). -/
theorem departed_outputView {s : State} (h : Sound s.waits s) (p : Port) {l : LeaseId} {c : ChannelId} (hc : s.inLease l c = true) :
    (s.eachLease fun l u => u.departLease p l).channels[c] =
        (if s.leases[l].heldBy p then s.channels[c].lapsed (LapseReason.departed == .revoked) else s.channels[c]) ∧
      (s.eachLease fun l u => u.departLease p l).slots[c] = if s.leases[l].heldBy p then none else s.slots[c] := by
  obtain ⟨t, ht, hview, houtput, -, hend⟩ := departed_observe h p l
  have hlease : t.leases[l] = s.leases[l] := congrArg Prod.fst hview
  have hin : t.inLease l c = true := (State.inLease_congr (ht.defn l) c).trans hc
  have hwalk : (s.eachLease fun l u => u.departLease p l).inLease l c = true :=
    (State.inLease_congr ((afterDepart_walk h p).defn l) c).trans hc
  have hstep : (t.departLease p l).inLease l c = true := ((t.departLease_localTo p l).inLease l c).trans hin
  have hbefore := congrFun houtput c
  rw [State.outputView_of_inLease hin, State.outputView_of_inLease hc] at hbefore
  obtain ⟨hchannel, hslot⟩ := Prod.mk.inj (Option.some.inj hbefore)
  have hafter := congrFun hend c
  rw [State.outputView_of_inLease hwalk, State.outputView_of_inLease hstep] at hafter
  obtain ⟨hchannel', hslot'⟩ := Prod.mk.inj (Option.some.inj hafter)
  have heq := departLease_eq (p := p) (ht.sound.lease l).record
  rw [hlease] at heq
  rw [hchannel', hslot', heq]
  by_cases hheld : s.leases[l].heldBy p = true
  · simp only [hheld, if_true]
    rw [State.lapse_channels_get, if_pos hin, hchannel]
    exact ⟨rfl, State.lapse_slots_get t l _ c hin⟩
  · simp only [hheld, if_false, Bool.false_eq_true]
    exact ⟨hchannel, hslot⟩

end Sys2Proof.Machine
end

section
/-! SUPPORT. DEPARTURE and RESET_LEASES, with everything they show. -/

namespace Sys2Proof.Machine

open Sys2Proof.Claims

theorem departLease_events (p : Port) (l : LeaseId) (t : State) :
    (t.departLease p l).events =
      if t.leases[l].heldBy p then withoutEvents (fun e => e.isExpiryOf l) t.events else t.events := by
  have hheldBy : (t.modLease l fun r => { r with queue := r.queueWithout p }).leases[l].heldBy p = t.leases[l].heldBy p := by
    rw [State.modLease_get, if_pos rfl]
    rfl
  unfold State.departLease
  dsimp only
  rw [hheldBy]
  split
  · exact State.lapse_events ..
  · rfl

/-- A departure withdraws the expiries of the leases that the port holds (R46, R66). -/
theorem departed_events {s : State} (hnonempty : ∀ b ∈ s.events, b ≠ []) (p : Port) :
    (s.eachLease fun l u => u.departLease p l).events =
      withoutEvents (fun e => leaseIds.any fun l => s.leases[l].heldBy p && e.isExpiryOf l) s.events := by
  rw [State.eachLease_withdraws (q := fun r => r.heldBy p) (fun l t => t.departLease_localTo p l)
    fun l t => departLease_events p l t]
  split
  · rfl
  · next hnone =>
    have hnone (e : Event) : (leaseIds.any fun l => s.leases[l].heldBy p && e.isExpiryOf l) = false := by
      refine List.any_eq_false.mpr fun l hl => ?_
      rw [eq_false_of_ne_true (List.any_eq_false.mp (eq_false_of_ne_true hnone) l hl), Bool.false_and]
      exact Bool.false_ne_true
    rw [withoutEvents_of_none fun b _ e _ => hnone e]
    exact (List.filter_eq_self.mpr fun b hb => bne_iff_ne.mpr (hnonempty b hb)).symm

theorem noticeSetEmpty_replicate : noticeSetEmpty (Vector.replicate 16 none) = true := by decide

end Sys2Proof.Machine

namespace Sys2Proof.Claims

open Sys2Proof.Machine

/-- The take of a due departure, from any lawful state less the taken event. -/
theorem departed_shows {s t : State} (p : Port) (h : Sound s.waits s) (hnonempty : ∀ b ∈ s.events, b ≠ [])
    (hattn : s.attnLaw) (ht : t = (s.eachLease fun l u => u.departLease p l).departPort p) :
    (∀ l : LeaseId, s.leases[l].heldBy p = false →
        t.leases[l] = { s.leases[l] with queue := s.leases[l].queue.filter fun w => w.port != p } ∧
          t.deadlines[l] = s.deadlines[l]) ∧
      (∀ l : LeaseId, s.leases[l].heldBy p = true →
        t.leases[l] =
            (if LeavesParking s l .departed then lapsingRecord s.leases[l] .departed else handedOn s.leases[l]) ∧
          t.deadlines[l] = if LeavesParking s l .departed then none else handedDeadline s s.leases[l]) ∧
      (∀ c : ChannelId,
        t.channels[c] =
          if ∃ l : LeaseId, s.leases[l].heldBy p = true ∧ s.inLease l c = true then
            lapsedChannel s.channels[c] .departed
          else s.channels[c]) ∧
      (∀ c : ChannelId,
        t.slots[c] =
          if ∃ l : LeaseId, s.leases[l].heldBy p = true ∧ s.inLease l c = true then none else s.slots[c]) ∧
      (∀ l : LeaseId, t.notices[p][l] = none) ∧ t.attn[p] = false ∧
      (∀ q : Port, q ≠ p →
        (∀ l : LeaseId,
          t.notices[q][l] =
            if s.leases[l].heldBy p = true ∧ ¬LeavesParking s l .departed ∧
                (s.leases[l].queue.head?.map Waiter.port) = some q then
              posted s.notices[q][l] (.granted (successor s.leases[l].epoch))
            else s.notices[q][l]) ∧
          (t.attn[q] = true ↔ ∃ l : LeaseId, t.notices[q][l] ≠ none)) ∧
      t.events = withoutEvents (fun e => leaseIds.any fun l => s.leases[l].heldBy p && e.isExpiryOf l) s.events ∧
      t.ports =
        s.ports.set p.val { s.ports[p] with presence := if s.ports[p].line = true then .present else .absent } ∧
      t.now = s.now ∧ t.haltTaken = s.haltTaken ∧ t.haltSampled = s.haltSampled ∧ t.arbiter = s.arbiter ∧
      t.pending = s.pending := by
  have hview := departed_leaseView h p
  have houtput (c : ChannelId) : (s.eachLease fun l u => u.departLease p l).channels[c] =
        (if ∃ l : LeaseId, s.leases[l].heldBy p = true ∧ s.inLease l c = true then
          lapsedChannel s.channels[c] .departed else s.channels[c]) ∧
      (s.eachLease fun l u => u.departLease p l).slots[c] =
        if ∃ l : LeaseId, s.leases[l].heldBy p = true ∧ s.inLease l c = true then none else s.slots[c] := by
    rw [lapsedChannel_eq]
    cases hl : s.channels[c].lease with
    | none =>
      have hout (l : LeaseId) : s.inLease l c = false := Bool.eq_false_iff.mpr fun hin => by
        cases hl.symm.trans (h.lease_of_inLease hin)
      have hnot : ¬∃ l : LeaseId, s.leases[l].heldBy p = true ∧ s.inLease l c = true := by
        rintro ⟨l, -, hin⟩
        exact Bool.noConfusion ((hout l).symm.trans hin)
      rw [if_neg hnot, if_neg hnot]
      exact (afterDepart_walk h p).idle c hout
    | some l =>
      have hin := h.inLease_of_lease hl
      have hiff : (∃ l : LeaseId, s.leases[l].heldBy p = true ∧ s.inLease l c = true) ↔ s.leases[l].heldBy p = true := by
        refine ⟨?_, fun hheld => ⟨l, hheld, hin⟩⟩
        rintro ⟨l', hheld, hin'⟩
        obtain rfl := Option.some.inj (hl.symm.trans (h.lease_of_inLease hin'))
        exact hheld
      rw [if_congr hiff rfl rfl, if_congr hiff rfl rfl]
      exact departed_outputView h p hin
  have hevents := departed_events hnonempty p
  obtain ⟨-, -, hnow, htaken, hsampled, hports, harbiter, hpending, hposted, -⟩ := afterDepart_walk h p
  subst ht
  generalize (s.eachLease fun l u => u.departLease p l) = u at *
  have hnoticesOther (q : Port) (hq : q ≠ p) : (u.departPort p).notices[q] = u.notices[q] := by
    rw [State.departPort, State.modPort_notices, State.setNotices_notices, getElem_set_fin, if_neg hq]
  have hattnOther (q : Port) (hq : q ≠ p) : (u.departPort p).attn[q] = u.attn[q] := by
    rw [State.departPort, State.modPort_attn, State.setNotices_attn, noticeSetEmpty_replicate]
    exact (getElem_set_fin ..).trans (if_neg hq)
  refine ⟨fun l hheld => ?_, fun l hheld => ?_, fun c => (houtput c).1, fun c => (houtput c).2, fun l => ?_, ?_,
    fun q hq => ⟨fun l => ?_, ?_⟩, hevents, ?_, hnow, htaken, hsampled, harbiter, hpending⟩
  · have hl := hview l
    rw [hheld] at hl
    exact ⟨congrArg Prod.fst hl, congrArg (·.2.1) hl⟩
  · have hl := hview l
    rw [hheld, if_pos rfl] at hl
    refine ⟨(congrArg Prod.fst hl).trans ?_, (congrArg (·.2.1) hl).trans ?_⟩
    · split <;> rfl
    · split <;> rfl
  · rw [State.departPort, State.modPort_notices, State.setNotices_notices, getElem_set_fin, if_pos rfl]
    exact Vector.getElem_replicate ..
  · rw [State.departPort, State.modPort_attn, State.setNotices_attn, noticeSetEmpty_replicate]
    exact (getElem_set_fin ..).trans (if_pos rfl)
  · rw [hnoticesOther q hq]
    refine (congrFun (congrArg (·.2.2) (hview l)) q).trans ?_
    by_cases hheld : s.leases[l].heldBy p = true
    · by_cases hparking : LeavesParking s l .departed
      · have hnot : ¬(s.leases[l].heldBy p = true ∧ ¬LeavesParking s l .departed ∧
            (s.leases[l].queue.head?.map Waiter.port) = some q) := fun hc => hc.2.1 hparking
        rw [if_pos hheld, if_pos hparking, if_neg hnot]
      · rw [if_pos hheld, if_neg hparking]
        exact if_congr ⟨fun hc => ⟨hheld, hparking, hc⟩, fun hc => hc.2.2⟩ rfl rfl
    · have hnot : ¬(s.leases[l].heldBy p = true ∧ ¬LeavesParking s l .departed ∧
          (s.leases[l].queue.head?.map Waiter.port) = some q) := fun hc => hheld hc.1
      rw [if_neg hheld, if_neg hnot]
  · rw [hattnOther q hq, hnoticesOther q hq]
    exact hposted.attn_iff (hattn q)
  · rw [State.departPort, State.modPort_ports, State.setNotices_ports, hports]

/-- Settles O25: the walk lease by lease, then the port, from the state in which the taken event is gone. -/
theorem departureEndsAllThePortHeld : Obligations.DepartureEndsAllThePortHeld := by
  intro s p hlawful hdue
  have hexec : exec (.departure p.val) s =
      .next (((s.dropDue (.departure p)).eachLease fun l u => u.departLease p l).departPort p) := by
    rw [exec, execDeparture, onPort_val, State.takeEvent_of_due hdue]
  have hattn : (s.dropDue (.departure p)).attnLaw := by
    intro q
    rw [State.dropDue_attn, State.dropDue_notices]
    exact hlawful.attn q
  have hshows := departed_shows p (hlawful.sound.dropOther (e := .departure p) rfl)
    (s.dropDue_nonempty hlawful.arrivals_nonempty _) hattn rfl
  rw [s.dropDue_eq] at hshows hexec
  exact ⟨_, hexec, hshows⟩

end Sys2Proof.Claims

namespace Sys2Proof.Machine

open Sys2Proof.Claims

/-! ### RESET_LEASES -/

theorem OnlyPosted.cancelWaits {s t : State} (h : OnlyPosted s t) (l : LeaseId) (queue : List Waiter) :
    OnlyPosted s (t.cancelWaits l queue) := by
  unfold State.cancelWaits
  induction queue generalizing t with
  | nil => exact h
  | cons x rest ih => exact ih (h.post x.port l _)

/-- A kind posted twice is posted once (R144). -/
theorem posted_waitCancelled_twice (n : Option Notice) :
    posted (posted n .waitCancelled) .waitCancelled = posted n .waitCancelled := by
  simp only [posted, Option.getD_some, Notice.add, KindSet.add, BitVec.or_assoc, BitVec.or_self]

/-- Each waiting port is told once that its wait is cancelled (R65, step 5). -/
theorem cancelWaits_notice (s : State) (l : LeaseId) (queue : List Waiter) (p : Port) :
    (s.cancelWaits l queue).notices[p][l] =
      if (queue.any fun w => w.port == p) = true then posted s.notices[p][l] .waitCancelled else s.notices[p][l] := by
  unfold State.cancelWaits
  induction queue generalizing s with
  | nil => rfl
  | cons x rest ih =>
    rw [List.foldl_cons, ih, State.post_notices_same, List.any_cons]
    by_cases hx : x.port = p
    · subst hx
      rw [beq_self_eq_true, Bool.true_or, if_pos rfl, if_pos rfl, posted_waitCancelled_twice, ite_self]
    · rw [beq_false_of_ne hx, Bool.false_or, if_neg (Ne.symm hx)]

theorem resetTold_slots (s : State) (l : LeaseId) : (resetTold s l).slots = s.slots := by
  have hcancel (t : State) (queue : List Waiter) : (t.cancelWaits l queue).slots = t.slots := by
    unfold State.cancelWaits
    induction queue generalizing t with
    | nil => rfl
    | cons x rest ih => exact (ih _).trans (State.post_slots ..)
  rw [resetTold, hcancel]
  split
  · rw [State.postHolder_slots, State.parkLease_slots]
  · exact State.parkLease_slots ..

theorem resetTold_posted {s t : State} (h : OnlyPosted s t) (l : LeaseId) : OnlyPosted s (resetTold t l) := by
  have hparked : OnlyPosted s (t.parkLease l) := h.congr (by rw [State.parkLease_notices]) (by rw [State.parkLease_attn])
  refine OnlyPosted.cancelWaits ?_ ..
  split
  · exact hparked.postHolder ..
  · exact hparked

/-- What the ports are told of a reset of one lease (R65). -/
theorem resetTold_notice (s : State) (l : LeaseId) (p : Port) :
    (resetTold s l).notices[p][l] =
      let told : Option Notice :=
        if s.leases[l].live = true ∧ s.leases[l].holder = some p then posted s.notices[p][l] (.lapsed .reset)
        else s.notices[p][l]
      if (s.leases[l].queue.any fun w => w.port == p) = true then posted told .waitCancelled else told := by
  have htold : (if s.leases[l].live then (s.parkLease l).postHolder l (.lapsed .reset) else s.parkLease l).notices[p][l] =
      if s.leases[l].live = true ∧ s.leases[l].holder = some p then posted s.notices[p][l] (.lapsed .reset)
      else s.notices[p][l] := by
    by_cases hlive : s.leases[l].live = true
    · have hif : (if s.leases[l].live then (s.parkLease l).postHolder l (.lapsed .reset) else s.parkLease l) =
          (s.parkLease l).postHolder l (.lapsed .reset) := if_pos hlive
      rw [hif]
      cases hh : s.leases[l].holder with
      | none =>
        have hsame : (s.parkLease l).postHolder l (.lapsed .reset) = s.parkLease l := by
          rw [State.postHolder, State.parkLease_leases, hh]
        rw [hsame, State.parkLease_notices, if_neg fun h => nomatch h.2]
      | some q =>
        rw [State.postHolder_of_holder (p := q) (by rw [State.parkLease_leases]; exact hh), State.post_notices_same,
          State.parkLease_notices]
        exact if_congr ⟨fun hp => ⟨hlive, congrArg some hp.symm⟩, fun hp => (Option.some.inj hp.2).symm⟩ rfl rfl
    · have hif : (if s.leases[l].live then (s.parkLease l).postHolder l (.lapsed .reset) else s.parkLease l) =
          s.parkLease l := if_neg hlive
      rw [hif, State.parkLease_notices, if_neg fun h => hlive h.1]
  rw [resetTold, cancelWaits_notice]
  dsimp only
  rw [htold]

theorem resetLease_channels_get {s : State} {l : LeaseId} (hdefined : s.leases[l].state ≠ .undefined) (c : ChannelId) :
    (s.resetLease l).channels[c] = (if s.inLease l c then s.channels[c].parked else s.channels[c]) ∧
      (s.resetLease l).slots[c] = if s.inLease l c then none else s.slots[c] := by
  rw [resetLease_eq hdefined]
  constructor
  · rw [Claims.rewritten, resetTold_channels, State.parkLease_get]
  · rw [Claims.rewritten, purgedSlots, getElem_ofFn_fin, (resetTold_localTo s l).inLease, resetTold_slots]

theorem resetLease_leaseView {s : State} {l : LeaseId} (hdefined : s.leases[l].state ≠ .undefined) :
    (s.resetLease l).leaseView l = (vacantRecord s.leases[l], none, fun p => (resetTold s l).notices[p][l]) := by
  rw [resetLease_eq hdefined]
  unfold State.leaseView
  rw [rewritten_lease, Claims.rewritten, getElem_set_fin, if_pos rfl]

/-- What every step of the walk of RESET_LEASES keeps (R65). -/
structure AfterReset (s t : State) : Prop where
  undefined : ∀ l : LeaseId, t.leases[l].state = .undefined ↔ s.leases[l].state = .undefined
  defn : ∀ l : LeaseId, t.leases[l].defn = s.leases[l].defn
  now : t.now = s.now
  haltTaken : t.haltTaken = s.haltTaken
  haltSampled : t.haltSampled = s.haltSampled
  ports : t.ports = s.ports
  pending : t.pending = s.pending
  posted : OnlyPosted s t
  output : ∀ c : ChannelId, t.channels[c] = s.channels[c] ∨ t.channels[c] = s.channels[c].parked
  idle : ∀ c : ChannelId, (∀ l : LeaseId, s.inLease l c = true → s.leases[l].state = .undefined) →
    t.channels[c] = s.channels[c] ∧ t.slots[c] = s.slots[c]

theorem AfterReset.refl (s : State) : AfterReset s s :=
  ⟨fun _ => .rfl, fun _ => rfl, rfl, rfl, rfl, rfl, rfl, .refl s, fun _ => .inl rfl, fun _ _ => ⟨rfl, rfl⟩⟩

theorem AfterReset.inLease {s t : State} (h : AfterReset s t) (l : LeaseId) (c : ChannelId) : t.inLease l c = s.inLease l c :=
  State.inLease_congr (h.defn l) c

theorem resetLease_keeps (s : State) (l : LeaseId) (t : State) (ht : AfterReset s t) : AfterReset s (t.resetLease l) := by
  by_cases hundefined : t.leases[l].state = .undefined
  · rw [State.resetLease, if_pos hundefined]
    exact ht
  obtain ⟨hsame, hdefn, hnow, htaken, hsampled, hports, hpending, hposted, houtput, hidle⟩ := ht
  have hl := t.resetLease_localTo l
  have hget := resetLease_channels_get hundefined
  have hlease : (t.resetLease l).leases[l] = vacantRecord t.leases[l] := congrArg Prod.fst (resetLease_leaseView hundefined)
  refine ⟨fun l' => ?_, fun l' => (hl.defn_all l').trans (hdefn l'), hl.now.trans hnow, hl.haltTaken.trans htaken,
    hl.haltSampled.trans hsampled, hl.ports.trans hports, hl.pending.trans hpending, ?_, fun c => ?_, fun c hc => ?_⟩
  · by_cases heq : l' = l
    · subst heq
      rw [hlease]
      exact iff_of_false (fun hs => nomatch hs) (mt (hsame l').mpr hundefined)
    · rw [hl.leases l' heq]
      exact hsame l'
  · have htold := resetTold_posted hposted l
    rw [resetLease_eq hundefined]
    generalize resetTold t l = u at htold
    exact htold.congr rfl rfl
  · rw [(hget c).1]
    split
    · refine .inr ?_
      obtain hc | hc := houtput c
      · rw [hc]
      · rw [hc, Channel.parked_parked]
    · exact houtput c
  · have hout : t.inLease l c = false := by
      rw [State.inLease_congr (hdefn l)]
      exact Bool.eq_false_iff.mpr fun hin => hundefined ((hsame l).mpr (hc l hin))
    obtain ⟨hchannel, hslot⟩ := hidle c hc
    exact ⟨(hl.channels c hout).trans hchannel, (hl.slots c hout).trans hslot⟩

/-- The state after the walk of RESET_LEASES (R65). -/
def State.leasesReset (s : State) : State := s.eachLease fun l t => t.resetLease l

theorem afterReset_walk (s : State) : AfterReset s s.leasesReset :=
  State.eachLease_induct _ (.refl s) (resetLease_keeps s)

theorem leasesReset_leaseView (s : State) (l : LeaseId) :
    s.leasesReset.leaseView l =
      if s.leases[l].state = .undefined then s.leaseView l
      else (vacantRecord s.leases[l], none, fun p => (resetTold s l).notices[p][l]) := by
  obtain ⟨t, ht, hview, hend⟩ := State.eachLease_observe (fun t => t.leaseView l) (AfterReset s) (resetLease_keeps s) l
    (fun l' t hne _ => (t.resetLease_localTo l').leaseView hne) (s := s) (.refl s)
  have hlease : t.leases[l] = s.leases[l] := congrArg Prod.fst hview
  have hnotices (q : Port) : t.notices[q][l] = s.notices[q][l] := congrFun (congrArg (·.2.2) hview) q
  rw [State.leasesReset, hend]
  by_cases hundefined : s.leases[l].state = .undefined
  · rw [State.resetLease, if_pos (by rw [hlease]; exact hundefined), if_pos hundefined]
    exact hview
  · rw [resetLease_leaseView (by rw [hlease]; exact hundefined), if_neg hundefined]
    simp only [resetTold_notice, hlease, hnotices]

/-- A channel of a defined lease is parked, and its slot is empty, once that lease has been walked (R65). -/
theorem leasesReset_output {s : State} {l : LeaseId} {c : ChannelId} (hdefined : s.leases[l].state ≠ .undefined)
    (hc : s.inLease l c = true) :
    s.leasesReset.channels[c] = s.channels[c].parked ∧ s.leasesReset.slots[c] = none := by
  refine State.eachLease_reaches (P := AfterReset s)
    (Q := fun t => t.channels[c] = s.channels[c].parked ∧ t.slots[c] = none) (resetLease_keeps s) (fun l' t ht => ?_) l
    (fun t ht => ?_) (.refl s)
  · by_cases hundefined : t.leases[l'].state = .undefined
    · rw [State.resetLease, if_pos hundefined]
      exact ht
    · obtain ⟨hchannel, hslot⟩ := resetLease_channels_get hundefined c
      obtain ⟨hparked, hempty⟩ := ht
      rw [hchannel, hslot, hparked, hempty, Channel.parked_parked, ite_self, ite_self]
      exact ⟨rfl, rfl⟩
  · obtain ⟨hchannel, hslot⟩ := resetLease_channels_get (mt (ht.undefined l).mp hdefined) c
    rw [hchannel, hslot, if_pos ((ht.inLease l c).trans hc), if_pos ((ht.inLease l c).trans hc)]
    refine ⟨?_, rfl⟩
    obtain h | h := ht.output c
    · rw [h]
    · rw [h, Channel.parked_parked]

theorem resetLease_events (l : LeaseId) (t : State) :
    (t.resetLease l).events =
      if t.leases[l].state != .undefined then withoutEvents (fun e => e.isExpiryOf l) t.events else t.events := by
  by_cases hundefined : t.leases[l].state = .undefined
  · rw [State.resetLease, if_pos hundefined, hundefined]
    rfl
  · rw [resetLease_eq hundefined, bne_iff_ne.mpr hundefined, if_pos rfl, Claims.rewritten, withdrawn, resetTold_events]

theorem leasesReset_events (s : State) :
    s.leasesReset.events =
      if ∃ l : LeaseId, s.leases[l].state ≠ .undefined then
        withoutEvents (fun e => leaseIds.any fun l => s.leases[l].state != .undefined && e.isExpiryOf l) s.events
      else s.events := by
  have hany : (leaseIds.any fun l => s.leases[l].state != .undefined) = true ↔
      ∃ l : LeaseId, s.leases[l].state ≠ .undefined := by
    simp only [List.any_eq_true, mem_leaseIds, true_and, bne_iff_ne]
  rw [State.leasesReset, State.eachLease_withdraws (q := fun r => r.state != .undefined) (fun l t => t.resetLease_localTo l)
    resetLease_events]
  exact if_congr hany rfl rfl

end Sys2Proof.Machine

namespace Sys2Proof.Claims

open Sys2Proof.Machine

/-- Settles O32: the walk lease by lease, and what every step of it keeps. -/
theorem resetLeasesVacatesEveryLease : Obligations.ResetLeasesVacatesEveryLease := by
  intro s tag htakes
  have hjudge : s.judge 0 .resetLeases = .accept .ok [countByte s.countDefined] s.leasesReset := rfl
  have hexec : exec .resetLeases s = .next (s.answer 0 tag (s.judge 0 .resetLeases)) := exec_of_takes htakes
  rw [hjudge, State.answer_accept, respond_eq_answered] at hexec
  have hview := leasesReset_leaseView s
  have hevents := leasesReset_events s
  have houtput {l : LeaseId} {c : ChannelId} (hdefined : s.leases[l].state ≠ .undefined) (hc : s.inLease l c = true) :=
    leasesReset_output hdefined hc
  obtain ⟨-, -, hnow, htaken, hsampled, hports, hpending, ⟨-, hattn⟩, -, hidle⟩ := afterReset_walk s
  generalize s.leasesReset = u at *
  refine ⟨_, hexec, fun l hdefined => ?_, fun l hundefined => ?_, ?_, hidle, fun p l => ?_, hattn, hevents, ?_, rfl, hnow, htaken,
    hsampled, hpending⟩
  · have hl := hview l
    rw [if_neg hdefined] at hl
    exact ⟨congrArg Prod.fst hl, congrArg (·.2.1) hl⟩
  · have hl := hview l
    rw [if_pos hundefined] at hl
    exact ⟨congrArg Prod.fst hl, congrArg (·.2.1) hl⟩
  · rintro c ⟨l, hdefined, hc⟩
    rw [parkedAtOnce_eq]
    exact houtput hdefined hc
  · refine (congrFun (congrArg (·.2.2) (hview l)) p).trans ?_
    by_cases hundefined : s.leases[l].state = .undefined
    · have hlive : ¬(s.leases[l].live = true ∧ s.leases[l].holder = some p) := fun hc =>
        Lease.state_ne_undefined_of_live hc.1 hundefined
      have hnot : ¬(s.leases[l].state ≠ .undefined ∧ (s.leases[l].queue.any fun w => w.port == p) = true) := fun hc =>
        hc.1 hundefined
      rw [if_pos hundefined, if_neg hnot, if_neg hlive]
      rfl
    · rw [if_neg hundefined]
      refine (resetTold_notice s l p).trans ?_
      exact if_congr ⟨fun hc => ⟨hundefined, hc⟩, And.right⟩ rfl rfl
  · rw [answered, hports]
    rfl

end Sys2Proof.Claims
end

section
/-! SUPPORT. The step, the device, the takes of expiries, and the pins: what each command does. -/

namespace Sys2Proof.Machine

open Sys2Proof.Claims

/-! ### Takes with no occasion -/

theorem State.takeEvent_of_not_due {s : State} {e : Event} (h : e ∉ s.due) (k : State → State) :
    s.takeEvent e k = s := if_neg h

theorem State.duePeriodEnd_eq_none {s : State} {c : ChannelId} (h : ∀ n : Nat, .periodEnd c n ∉ s.due) :
    s.duePeriodEnd c = none := by
  refine Option.eq_none_iff_forall_not_mem.mpr fun n hn => ?_
  exact h n (State.mem_due_of_duePeriodEnd hn)

/-- A take of a request of another code, or of none, takes nothing (log 2). -/
theorem exec_command_of_not_next {s : State} {k : ReqCode} (h : ∀ (p : Port) (r : Request), ¬NextIs s k p r) :
    exec k.command s = .next s := by
  have hnone (judge : Port → HostRequest → Judgement) : s.takeRequest k judge = s := by
    obtain ⟨p, r, -, hn, hc, -⟩ | ⟨p, r, hn, hc, -⟩ | ⟨-, ht⟩ := s.takeRequest_cases k judge
    · exact absurd ⟨hn, hc.trans (requestCode_eq_byte k).symm⟩ (h p r)
    · exact absurd ⟨hn, hc.trans (requestCode_eq_byte k).symm⟩ (h p r)
    · exact ht
  cases k <;> exact congrArg Host.Outcome.next (hnone _)

/-! ### Expiries of one tick -/

theorem State.nodup_expiriesAt (s : State) (t : Tick) : (s.expiriesAt t).Nodup := by
  unfold State.expiriesAt
  refine List.Nodup.filterMap (fun l l' e he he' => ?_) (by decide)
  split at he
  · split at he
    · cases he
      split at he'
      · split at he'
        · obtain ⟨hl, -⟩ := Event.expiry.inj (Option.some.inj he')
          exact hl.symm
        · cases he'
      · cases he'
    · cases he
  · cases he

end Sys2Proof.Machine

namespace Sys2Proof.Claims

open Sys2Proof.Machine

/-! ### What a lapse tells -/

theorem has_posted_iff (n : Option Notice) (k : Post) (k' : NoticeKind) :
    ((posted n k).any fun m => m.kinds.has k') = true ↔ k' = k.kind ∨ (n.any fun m => m.kinds.has k') = true := by
  have hadd : ((n.getD Notice.blank).add k).kinds = (n.getD Notice.blank).kinds.add k.kind := rfl
  rw [posted, Option.any_some, hadd, KindSet.has_add_iff, Notice.has_getD_blank_iff, Option.any_eq_true]

theorem told_lapseTold {s : State} {l : LeaseId} {p : Port} {reason : LapseReason} (hholder : s.leases[l].holder = some p)
    (hposts : reason.posts = true) : Told (lapseTold s l reason) p l .lapsed := by
  unfold Told
  rw [lapseTold_of_holder hholder, if_pos hposts, State.post_notices_same, if_pos rfl, has_posted_iff]
  exact .inl rfl

theorem told_handedOver {t : State} {p : Port} {l : LeaseId} {k : NoticeKind} (h : Told t p l k) :
    Told (handedOver t l) p l k := by
  have hview : (handedOver t l).notices[p][l] = _ := congrFun (congrArg (·.2.2) (handedOver_leaseView t l)) p
  unfold Told
  rw [hview]
  dsimp only
  split
  · exact (has_posted_iff ..).mpr (.inr h)
  · exact h

/-- A lapse whose reason posts LAPSED tells its holder, whatever it completes to (R57). -/
theorem told_lapse {s : State} {l : LeaseId} {p : Port} {reason : LapseReason} (hholder : s.leases[l].holder = some p)
    (hposts : reason.posts = true) : Told (s.lapse l reason) p l .lapsed := by
  obtain ⟨hleft, hdone⟩ := lapse_eq s l reason
  by_cases h : LeftParking s l reason
  · rw [hleft h]
    exact told_lapseTold hholder hposts
  · rw [hdone h]
    exact told_handedOver (told_lapseTold hholder hposts)

/-- Settles O1, by the queue of waiting commands. -/
theorem stepRunsFrontCommand : Obligations.StepRunsFrontCommand := by
  refine ⟨fun s c rest hpending => ?_, fun s hpending => ?_⟩
  · rw [step, hpending]
  · rw [step, hpending]

/-- Settles O3, take by take. -/
theorem takesWithoutTheirOccasionChangeNothing : Obligations.TakesWithoutTheirOccasionChangeNothing := by
  refine ⟨?term, ?grace, ?periodEnd, ?assertion, ?release, ?departure, fun s k => exec_command_of_not_next, ?unknown⟩
  case term => exact fun s l hnot => by rw [exec, execTermExpiry, onLease_val, State.takeEvent_of_not_due hnot]
  case grace => exact fun s l hnot => by rw [exec, execGraceExpiry, onLease_val, State.takeEvent_of_not_due hnot]
  case periodEnd => exact fun s c hnot => by rw [exec, execPeriodEndTake, onChannel_val, State.duePeriodEnd_eq_none hnot]
  case assertion => exact fun s line hnot => by rw [exec, execHaltAssertion, State.takeEvent_of_not_due hnot]
  case release => exact fun s line hnot => by rw [exec, execHaltRelease, State.takeEvent_of_not_due hnot]
  case departure => exact fun s p hnot => by rw [exec, execDeparture, onPort_val, State.takeEvent_of_not_due hnot]
  case unknown =>
    intro s hknown
    rw [exec, execUnknownRequest]
    cases hnext : s.nextRequest with
    | none => rfl
    | some x =>
      obtain ⟨p, r⟩ := x
      obtain ⟨k, hk⟩ := hknown p r hnext
      dsimp only
      rw [hk, requestCode_eq_byte, ReqCode.ofByte_byte]
      rfl

/-- Settles O9: every record reads its reset value. -/
theorem deviceResetGivesResetValues : Obligations.DeviceResetGivesResetValues := by
  intro pins s
  refine ⟨_, rfl, rfl, rfl, rfl, rfl, rfl, fun l => ?_, fun c => ?_, fun p => ?_⟩
  · simp [State.afterReset, Lease.afterReset]
  · simp [State.afterReset, Channel.afterReset]
  · simp [State.afterReset, PortRecord.afterReset]

/-- Settles O10, law by law, on the one reset state. -/
theorem resetStateIsLawful : Obligations.ResetStateIsLawful := by
  unfold Obligations.ResetStateIsLawful
  constructor <;> decide

/-- Settles O11: the expiries of the tick are those of the reached deadlines, lowest lease first. -/
theorem tickRaisesReachedDeadlines : Obligations.TickRaisesReachedDeadlines := by
  intro s
  refine ⟨s.expiriesAt (s.now + 1), ?_, s.nodup_expiriesAt _, fun e => State.mem_expiriesAt⟩
  rw [exec, execTick, State.raise_eq]

/-- Settles O12, by the grace of the definition. -/
theorem termExpiryEntersGraceOrLapses : Obligations.TermExpiryEntersGraceOrLapses := by
  intro s l d p hdue hdefn hholder
  have hexec : exec (.termExpiry l.val) s = .next ((s.dropDue (.expiry l .term)).termExpired l) := by
    rw [exec, execTermExpiry, onLease_val, State.takeEvent_of_due hdue]
  have hticks : (s.dropDue (.expiry l .term)).leases[l].graceTicks = d.grace := by
    rw [State.dropDue_leases, Lease.graceTicks, hdefn]
    rfl
  rw [hexec, State.termExpired, hticks]
  refine ⟨fun hgrace => ?_, fun hgrace => ?_⟩
  · rw [if_neg hgrace, State.enterGrace, hticks]
    have hholder' (t : State) (f : Lease → Lease) (ht : t.leases = s.leases) (hf : (f s.leases[l]).holder = some p)
        (dl : Option Deadline) : ((t.modLease l f).setDeadline l dl).leases[l].holder = some p := by
      rw [State.setDeadline_leases, State.modLease_get, if_pos rfl, ht]
      exact hf
    rw [State.postHolder_of_holder (hholder' _ _ (State.dropDue_leases ..) hholder _)]
    rw [s.dropDue_eq]
    rfl
  · rw [if_pos hgrace]

/-- Settles O13: the lapse tells its holder, whatever it completes to. -/
theorem graceExpiryLapsesTheLease : Obligations.GraceExpiryLapsesTheLease := by
  intro s l p hdue hholder
  have hexec : exec (.graceExpiry l.val) s = .next ((s.dropDue (.expiry l .grace)).lapse l .expired) := by
    rw [exec, execGraceExpiry, onLease_val, State.takeEvent_of_due hdue]
  refine ⟨_, hexec, rfl, ?_, ?_, ?_⟩
  · exact told_lapse (by rw [State.dropDue_leases]; exact hholder) rfl
  · rw [State.lapse_ports, State.dropDue_ports]
  · rw [State.lapse_now, State.dropDue_now]

/-- Settles O21: the comparison of R113, on the level sampled. -/
theorem haltChangeRaisesAtMostOneEvent : Obligations.HaltChangeRaisesAtMostOneEvent := by
  intro s line asserted
  have hsampled : (s.haltSampled.put line asserted).get line = asserted := HaltLevels.get_put ..
  have hcond : (asserted != s.haltTaken.get line &&
      !({ s with haltSampled := s.haltSampled.put line asserted } : State).waitingEvent fun e => e.isChangeOf line) = true ↔
        asserted ≠ s.haltTaken.get line ∧ ∀ b ∈ s.events, ∀ e ∈ b, e.isChangeOf line = false := by
    rw [Bool.and_eq_true, bne_iff_ne, Bool.not_eq_true', State.waitingEvent_eq_false_iff]
  rw [exec, execHaltChange, State.raiseHaltChange_eq]
  dsimp only
  rw [hsampled]
  simp only [if_congr hcond rfl rfl]

theorem portReturned_eq (pr : PortRecord) :
    (match pr.presence with
      | .absent => { pr with presence := .present, request := none, response := .empty, transaction := none, line := true }
      | .leaving => { pr with line := true }
      | .present => { pr with line := true }) =
      if pr.presence = .absent then
        { pr with presence := .present, request := none, response := .empty, transaction := none, line := true }
      else { pr with line := true } := by
  obtain ⟨presence⟩ := pr
  cases presence <;> rfl

/-- Settles O24, by the presence of the port. -/
theorem presenceLinesMoveThePort : Obligations.PresenceLinesMoveThePort := by
  intro s p
  refine ⟨fun hpresent => ?_, fun hnot => ?_, ?_⟩
  · rw [exec, execPresentFall, onPort_val, hpresent]
    rfl
  · rw [exec, execPresentFall, onPort_val]
    cases hp : s.ports[p].presence with
    | present => exact absurd hp hnot
    | leaving => rfl
    | absent => rfl
  · rw [exec, execPortReturn, onPort_val, State.modPort]
    exact congrArg (fun pr => Host.Outcome.next { s with ports := s.ports.set p.val pr }) (portReturned_eq s.ports[p])

end Sys2Proof.Claims
end

section
/-! SUPPORT. Requests: what the supervisor's and the holder's requests answer past their checks, and what accepted ones write. -/

namespace Sys2Proof.Machine

open Sys2Proof.Claims

/-! ### The supervisor's requests -/

/-- DEFINE from the supervisor port turns on the lease's state, then on the channels (R17). -/
theorem judgeDefine_supervisor (s : State) (l : LeaseId) (d : LeaseDef) :
    s.judgeDefine 0 l d =
      if s.leases[l].state ≠ .undefined then .refuse .alreadyDefined
      else if s.channelTaken d.channels = true then .refuse .channelTaken
      else .accept .ok (wordBytes s.leases[l].epoch) (s.defined l d) := by
  simp only [State.judgeDefine, checked_cons, checked_nil, supervisorCheck, supervisor, bne_self_eq_false, Bool.false_eq_true,
    if_false, bne_iff_ne]

/-- CONFIGURE_CHANNEL from the supervisor port turns on the state of the channel's lease (R88). -/
theorem judgeConfigure_supervisor (s : State) (c : ChannelId) (a : ParkAction) (t : ParkTiming) (g : HaltGroup) :
    s.judgeConfigure 0 c a t g =
      if s.channelBusy c = true then .refuse .busy
      else .accept .ok [] (s.modChannel c fun ch => ch.configured s.haltTaken a t g) := by
  simp only [State.judgeConfigure, checked_cons, checked_nil, supervisorCheck, supervisor, bne_self_eq_false, Bool.false_eq_true,
    if_false]

/-- The record CONFIGURE_CHANNEL writes, as the tables of R83, R89 and R112 give it. -/
theorem configured_eq (ch : Channel) (h : HaltLevels) (a : ParkAction) (t : ParkTiming) (g : HaltGroup) :
    ch.configured h a t g =
      { ch with
        parkAction := a
        parkTiming := t
        haltGroup := g
        halted := (groupHas g .h0 && h.h0) || (groupHas g .h1 && h.h1)
        level := match a with
          | .parkLow => .low
          | .parkHigh => .high
          | .parkFloat => .float
          | .parkHold => ch.level } := by
  cases a <;> rfl

/-! ### Checks of the holder's requests -/

theorem Lease.hasLead_iff {r : Lease} {d : LeaseDef} (h : r.defn = some d) (c : ChannelId) : r.hasLead c = true ↔ d.lead = c := by
  rw [Lease.hasLead, h]
  exact beq_iff_eq

theorem Lease.exists_hasLead_iff {r : Lease} {d : LeaseDef} (h : r.defn = some d) (P : ChannelId → Prop) :
    (∃ c : ChannelId, P c ∧ r.hasLead c = true) ↔ P d.lead := by
  simp only [Lease.hasLead_iff h, exists_eq_right']

/-- The set holds a channel outside the lease (R110). -/
theorem and_not_ne_zero_iff (set whole : ChannelSet) :
    (set &&& ~~~whole != 0) = true ↔ ∃ c : ChannelId, set.getLsbD c.val = true ∧ whole.getLsbD c.val = false := by
  rw [bne_iff_ne]
  constructor
  · intro hne
    by_contra hnone
    refine hne (BitVec.eq_of_getLsbD_eq fun i hi => ?_)
    have hzero : (0 : ChannelSet).getLsbD i = false := BitVec.getLsbD_zero
    rw [hzero, BitVec.getLsbD_and, BitVec.getLsbD_not, decide_eq_true hi, Bool.true_and]
    cases hset : set.getLsbD i with
    | false => rfl
    | true =>
      cases hwhole : whole.getLsbD i with
      | true => rfl
      | false => exact absurd ⟨⟨i, hi⟩, hset, hwhole⟩ hnone
  · rintro ⟨c, hset, hwhole⟩ hzero
    rw [subset_of_and_not_eq_zero hzero c hset] at hwhole
    cases hwhole

end Sys2Proof.Machine

namespace Sys2Proof.Claims

open Sys2Proof.Machine

/-- Settles O28, by the two checks of the table. -/
theorem defineMakesTheLeaseVacant : Obligations.DefineMakesTheLeaseVacant := by
  intro s tag l d htakes
  have hexec : exec .define s = .next (s.answer 0 tag (s.judgeDefine 0 l d)) := exec_of_takes htakes
  rw [hexec, judgeDefine_supervisor]
  refine ⟨fun hs => ?_, fun hs htaken => ?_, fun hs hfree => ?_⟩
  · rw [if_pos hs]
    rfl
  · have htaken : s.channelTaken d.channels = true := by
      refine Bool.eq_true_of_not_eq_false fun hfree => ?_
      obtain ⟨l', c, hc, hd⟩ := htaken
      exact Bool.noConfusion (((s.channelTaken_eq_false_iff d.channels).mp hfree l' c hc).symm.trans hd)
    rw [if_neg (not_not_intro hs), if_pos htaken]
    rfl
  · rw [if_neg (not_not_intro hs), (s.channelTaken_eq_false_iff d.channels).mpr hfree, defined_eq]
    rfl

/-- Settles O30, by whether the channel's lease is in use. -/
theorem configureChannelWritesTheRecord : Obligations.ConfigureChannelWritesTheRecord := by
  intro s tag c a t g htakes
  have hexec : exec .configureChannel s = .next (s.answer 0 tag (s.judgeConfigure 0 c a t g)) := exec_of_takes htakes
  have hidle (l : LeaseId) : (s.leases[l].live = false ∧ s.leases[l].state ≠ .lapsing) ↔
      s.leases[l].state = .undefined ∨ s.leases[l].state = .vacant := by
    rw [Lease.live]
    cases s.leases[l].state <;> decide
  rw [hexec, judgeConfigure_supervisor]
  refine ⟨fun ⟨l, hl, hundefined, hvacant⟩ => ?_, fun hfree => ?_⟩
  · have hbusy : s.channelBusy c = true := by
      refine Bool.eq_true_of_not_eq_false fun hfree => ?_
      obtain hs | hs := (hidle l).mp ((s.channelBusy_eq_false_iff c).mp hfree l hl)
      · exact hundefined hs
      · exact hvacant hs
    rw [if_pos hbusy]
    rfl
  · rw [(s.channelBusy_eq_false_iff c).mpr fun l hl => (hidle l).mpr (hfree l hl), State.modChannel, configured_eq]
    rfl

/-! ### TRANSFER -/

/-- Past the holder checks, TRANSFER turns on a pending commit, then on the entry its target names (R38, R39). -/
theorem exec_transfer_of_mayAct {s : State} {p : Port} {tag : Byte} {l : LeaseId} {e : Word16} {target : Target}
    (htakes : Takes s p tag (.transfer l e target)) (hmay : MayAct s p l e false) :
    exec .transfer s =
      .next (if s.leases[l].commitPending = true then answered s p tag .commitPending []
        else match s.leases[l].targetEntry target with
          | some w => answered (s.transferred l w) p tag .ok (portByte w.port :: wordBytes (nextEpoch s.leases[l].epoch))
          | none => answered s p tag .notWaiting []) := by
  have hexec : exec .transfer s = .next (s.answer p tag (s.judgeTransfer p l e target)) := exec_of_takes htakes
  rw [hexec, State.judgeTransfer, checked_holderChecks_of_mayAct hmay, checked_cons, checked_nil]
  cases s.leases[l].commitPending with
  | true => rfl
  | false => cases s.leases[l].targetEntry target <;> rfl

/-- Settles O36, by the entry the target names. -/
theorem transferGrantsToTheTarget : Obligations.TransferGrantsToTheTarget := by
  intro s p tag l e target htakes hmay
  rw [exec_transfer_of_mayAct htakes hmay]
  refine ⟨fun hpending => ?_, fun hnone => ⟨fun w htarget hentry => ?_, fun w htarget hentry => ?_, fun hmissing => ?_⟩⟩
  · rw [if_pos hpending]
  · have hfound : s.leases[l].targetEntry target = some w := by rw [htarget]; exact hentry
    rw [hnone, hfound]
    rfl
  · have hfound : s.leases[l].targetEntry target = some w := by rw [htarget]; exact hentry
    rw [hnone, hfound]
    rfl
  · have hlost : s.leases[l].targetEntry target = none := by
      obtain ⟨rfl, hempty⟩ | ⟨q, rfl, hother⟩ := hmissing
      · rw [Lease.targetEntry, hempty]
        rfl
      · exact List.find?_eq_none.mpr fun w hw => mt beq_iff_eq.mp (hother w hw)
    rw [hnone, hlost]
    rfl

/-! ### DISCARD -/

/-- Settles O39, by the slot checks. -/
theorem discardEmptiesTheSlot : Obligations.DiscardEmptiesTheSlot := by
  refine ⟨fun s p tag l e c htakes _ hmay => ?discard, fun s p tag l e c ps htakes hmay => ?stage⟩
  case discard =>
    have hexec : exec .discard s = .next (s.answer p tag (s.judgeDiscard p l e c)) := exec_of_takes htakes
    rw [hexec, State.judgeDiscard, checked_holderChecks_of_mayAct hmay, State.checked_slotChecks]
    refine ⟨fun hin hnone => ?_, fun hout => ?_, fun hin hpending => ?_⟩
    · rw [hin, hnone, State.setSlot_eq]
      rfl
    · rw [if_pos hout]
      rfl
    · rw [hin, if_pos hpending]
      rfl
  case stage =>
    rw [exec_stage_of_takes htakes, judgeStage_of_mayAct hmay]
    refine ⟨fun hout => ?_, fun hin hpending => ?_⟩
    · rw [if_pos hout]
      rfl
    · rw [hin, if_pos hpending]
      rfl

/-! ### COMMIT -/

/-- Settles O40, check by check, then by whether the lead is RUNNING. -/
theorem commitIsPendingOrExecutes : Obligations.CommitIsPendingOrExecutes := by
  intro s p tag l e d staged htakes hmay hdefn hstaged
  have hexec : exec .commit s = .next (s.answer p tag (s.judgeCommit p l e)) := exec_of_takes htakes
  have hcount : s.countStaged l = staged := hstaged.symm
  have hlead : s.leadRunning l = true ↔ s.channels[d.lead].state = .running := by
    rw [State.leadRunning_iff]
    simp only [Lease.hasLead_iff hdefn, exists_eq_left']
  rw [hexec, State.judgeCommit, checked_holderChecks_of_mayAct hmay, State.committed]
  simp only [checked_cons, checked_nil, hcount, beq_iff_eq, State.anyHalted_iff, hlead]
  congr 1
  split_ifs with hpending hnone hhalted hrunning
  · rfl
  · rfl
  · rfl
  · rw [hlead.mpr hrunning]
    rfl
  · rw [Bool.eq_false_iff.mpr (mt hlead.mp hrunning)]
    rfl

/-! ### RESUME -/

/-- The channels RESUME starts, as the statement writes them (R109). -/
theorem resumed_eq (s : State) (l : LeaseId) :
    s.resumed l =
      { s with
        channels := Vector.ofFn fun c : Fin 16 =>
          match s.channels[c].active with
          | some ps =>
            if s.inLease l c && (s.channels[c].state == .parked || s.channels[c].state == .ended) && s.channels[c].active.isSome
            then startedOn s.channels[c] ps else s.channels[c]
          | none => s.channels[c] } := by
  rw [State.resumed, State.mapChannels]
  congr 2
  funext c
  have hresumable : s.channels[c].resumable =
      ((s.channels[c].state == .parked || s.channels[c].state == .ended) && s.channels[c].active.isSome) := rfl
  rw [Bool.and_assoc, ← hresumable]
  cases hactive : s.channels[c].active with
  | none => rw [ite_self]
  | some ps =>
    dsimp only
    rw [startedOn_eq]
    cases s.inLease l c && s.channels[c].resumable <;> rfl

/-- Settles O41, by the two checks past the holder checks. -/
theorem resumeStartsStoppedChannels : Obligations.ResumeStartsStoppedChannels := by
  intro s p tag l e htakes hmay
  have hexec : exec .resume s = .next (s.answer p tag (s.judgeResume p l e)) := exec_of_takes htakes
  have hstarts (c : ChannelId) : (s.inLease l c && s.channels[c].resumable) =
      (s.inLease l c && (s.channels[c].state == .parked || s.channels[c].state == .ended) && s.channels[c].active.isSome) :=
    (Bool.and_assoc ..).symm
  have hhalted : (channelIds.any fun c =>
      s.inLease l c && (s.channels[c].state == .parked || s.channels[c].state == .ended) && s.channels[c].active.isSome &&
        s.channels[c].halted) = true ↔
      ∃ c : ChannelId,
        (s.inLease l c && (s.channels[c].state == .parked || s.channels[c].state == .ended) &&
            s.channels[c].active.isSome) = true ∧
          s.channels[c].halted = true := by
    simp only [List.any_eq_true, mem_channelIds, true_and, Bool.and_eq_true]
  dsimp only
  rw [hexec, State.judgeResume, checked_holderChecks_of_mayAct hmay]
  simp only [checked_cons, checked_nil, hhalted, hstarts, countChannels]
  congr 1
  split_ifs with hpending hmarked
  · rfl
  · rfl
  · rw [State.answer_accept, resumed_eq]
    rfl

/-! ### PARK -/

theorem parkSet_eq (s : State) (set : ChannelSet) :
    s.parkSet set =
      { s with channels := Vector.ofFn fun c : Fin 16 =>
          if set.getLsbD c.val then parkedAtOnce s.channels[c] else s.channels[c] } := by
  simp only [parkedAtOnce_eq]
  rfl

/-- Settles O42, by the subset check, then by whether the lead of a pending commit is listed. -/
theorem parkParksTheListedChannels : Obligations.ParkParksTheListedChannels := by
  intro s p tag l e set d htakes _ hmay hdefn
  have hexec : exec .park s = .next (s.answer p tag (s.judgePark p l e set)) := exec_of_takes htakes
  have hcommits : s.parkCommits l set = true ↔ s.leases[l].commitPending = true ∧ set.getLsbD d.lead.val = true := by
    rw [State.parkCommits_iff, Lease.exists_hasLead_iff hdefn]
  have houtside : (set &&& ~~~s.leases[l].channelSet != 0) = true ↔
      ∃ c : ChannelId, set.getLsbD c.val = true ∧ s.inLease l c = false := and_not_ne_zero_iff ..
  dsimp only
  rw [hexec, State.judgePark, checked_holderChecks_of_mayAct hmay, ← parkSet_eq, State.parkListed, checked_cons, checked_nil]
  simp only [houtside, hcommits]
  congr 1
  split_ifs with hout hcommit
  · rfl
  · rw [hcommits.mpr hcommit]
    rfl
  · rw [Bool.eq_false_iff.mpr (mt hcommits.mp hcommit)]
    rfl

/-! ### Lookups -/

/-- Settles O44: a lookup is accepted from any port with the state as it is. -/
theorem lookupsChangeNothing : Obligations.LookupsChangeNothing :=
  ⟨fun _ _ _ _ htakes => exec_of_takes htakes, fun _ _ _ _ htakes => exec_of_takes htakes,
    fun _ _ _ htakes => exec_of_takes htakes⟩

end Sys2Proof.Claims
end

section
/-! SUPPORT. The take of a request: the arbiter's search, the common checks, and what no answer changes. -/

namespace Sys2Proof.Machine

open Sys2Proof.Claims

/-! ### The arbiter's search -/

theorem mem_searchOrder (last q : Port) : q ∈ searchOrder last := by revert last q; decide

theorem pairwise_searchOrder (last : Port) :
    (searchOrder last).Pairwise fun p q => searchedBefore last p < searchedBefore last q := by
  revert last; decide

/-- A search in increasing rank finds the request of least rank. -/
theorem findSome?_eq_some_iff_least {xs : List Port} {rank : Port → Nat} (hsorted : xs.Pairwise fun p q => rank p < rank q)
    (req : Port → Option Request) (p : Port) (r : Request) :
    (xs.findSome? fun q => (req q).map fun x => (q, x)) = some (p, r) ↔
      p ∈ xs ∧ req p = some r ∧ ∀ q ∈ xs, rank q < rank p → req q = none := by
  induction xs with
  | nil => simp
  | cons x xs ih =>
    obtain ⟨hfirst, hrest⟩ := List.pairwise_cons.mp hsorted
    rw [List.findSome?_cons]
    cases hx : req x with
    | none =>
      refine (ih hrest).trans
        ⟨fun ⟨hp, hr, hleast⟩ => ⟨List.mem_cons_of_mem _ hp, hr, ?_⟩, fun ⟨hp, hr, hleast⟩ => ⟨?_, hr, ?_⟩⟩
      · exact List.forall_mem_cons.mpr ⟨fun _ => hx, hleast⟩
      · refine (List.mem_cons.mp hp).resolve_left fun heq => ?_
        rw [heq, hx] at hr
        cases hr
      · exact fun q hq => hleast q (List.mem_cons_of_mem _ hq)
    | some r' =>
      constructor
      · intro hfound
        obtain ⟨rfl, rfl⟩ : x = p ∧ r' = r := by simpa using hfound
        refine ⟨List.mem_cons_self, hx,
          List.forall_mem_cons.mpr ⟨fun hlt => absurd hlt (Nat.lt_irrefl _), fun q hq hlt => ?_⟩⟩
        exact absurd hlt (Nat.lt_asymm (hfirst q hq))
      · rintro ⟨hp, hr, hleast⟩
        obtain rfl | hp := List.mem_cons.mp hp
        · rw [hx] at hr
          obtain rfl := Option.some.inj hr
          rfl
        · have hnone := hleast x List.mem_cons_self (hfirst p hp)
          rw [hx] at hnone
          cases hnone

theorem State.nextRequest_eq_some_iff (s : State) (p : Port) (r : Request) :
    s.nextRequest = some (p, r) ↔
      s.ports[p].request = some r ∧
        ∀ q : Port, searchedBefore s.arbiter q < searchedBefore s.arbiter p → s.ports[q].request = none := by
  rw [State.nextRequest, findSome?_eq_some_iff_least (pairwise_searchOrder s.arbiter) fun q => s.ports[q].request]
  simp only [mem_searchOrder, true_and, true_implies]

theorem State.nextRequest_eq_none_iff (s : State) : s.nextRequest = none ↔ ∀ q : Port, s.ports[q].request = none := by
  rw [State.nextRequest, List.findSome?_eq_none_iff]
  simp only [mem_searchOrder, true_implies, Option.map_eq_none_iff]

/-- A request whose code is none of the nineteen is answered UNKNOWN_REQUEST (R21, R160). -/
theorem exec_unknownRequest_of_next {s : State} {p : Port} {r : Request} (hn : s.nextRequest = some (p, r))
    (hcode : ReqCode.ofByte r.code = none) : exec .unknownRequest s = .next (s.respond p .unknownRequest r.tag []) := by
  rw [exec, execUnknownRequest, hn]
  dsimp only
  rw [if_pos hcode]
  rfl

/-! ### The common checks -/

theorem judge_of_supervisorRequest {p : Port} {q : HostRequest} (hq : supervisorRequest q = true) (hp : p ≠ 0) (s : State) :
    s.judge p q = .refuse .notSupervisor := by
  have hfails : (p != supervisor) = true := bne_iff_ne.mpr hp
  have hrefused (rest : List (Bool × Status)) (k : Judgement) :
      checked (supervisorCheck p :: rest) k = .refuse .notSupervisor := by
    rw [supervisorCheck, checked_cons, if_pos hfails]
  cases q with
  | define | undefine | configureChannel | revoke | resetLeases => exact hrefused ..
  | acquire | withdraw | renew | transfer | release | stage | discard | commit | resume | park | readNotices | queryLease
  | queryChannel | queryDevice => cases hq

/-- Every holder request makes the defined check and the holder checks first (R21, R22). -/
theorem judge_of_holderFields {q : HostRequest} {l : LeaseId} {e : Word16} {inGrace : Bool}
    (hq : holderFields q = some (l, e, inGrace)) (s : State) (p : Port) :
    ∃ (rest : List (Bool × Status)) (k : Judgement), s.judge p q = checked (s.holderChecks p l e inGrace ++ rest) k := by
  cases q with
  | define | undefine | configureChannel | revoke | resetLeases | acquire | withdraw | readNotices | queryLease | queryChannel
  | queryDevice => cases hq
  | renew | transfer | stage | discard | commit | resume | park => cases hq; exact ⟨_, _, rfl⟩
  | release => cases hq; exact ⟨[], _, congrArg (checked · _) (List.append_nil _).symm⟩

theorem checked_holderChecks (s : State) (p : Port) (l : LeaseId) (e : Word16) (inGrace : Bool) (rest : List (Bool × Status))
    (k : Judgement) :
    checked (s.holderChecks p l e inGrace ++ rest) k =
      if s.leases[l].state = .undefined then .refuse .notDefined
      else if s.leases[l].heldBy p = false then .refuse .notHolder
      else if s.leases[l].epoch ≠ e then .refuse .stale
      else if s.leases[l].state = .grace ∧ inGrace = false then .refuse .inGrace
      else checked rest k := by
  simp only [State.holderChecks, State.definedCheck, List.cons_append, List.nil_append, checked_cons, beq_iff_eq,
    Bool.not_eq_true', bne_iff_ne, Bool.and_eq_true]

/-! ### What no answer changes -/

/-- No request writes a port's record but by its answer. -/
theorem Accepted.ports_eq {s u : State} {p : Port} {q : HostRequest} (h : Accepted s p q u) : u.ports = s.ports := by
  cases h with
  | define => rw [defined_eq]
  | undefine => rw [undefined_eq]
  | configureChannel => rfl
  | revoke l => exact (s.revoked_localTo l).ports
  | resetLeases => exact (afterReset_walk s).ports
  | acquire l => exact (s.grant_localTo l ..).ports
  | queue => rfl
  | withdraw => rfl
  | renew l => exact (s.renewed_localTo l _).ports
  | transfer l _ _ w => exact (s.transferred_localTo l w).ports
  | release l => exact (s.lapse_localTo l _).ports
  | stage => rfl
  | discard => rfl
  | commit l => exact (s.committed_localTo l).ports
  | resume l => exact (s.resumed_localTo l).ports
  | park l _ set _ hin => exact (s.parkListed_localTo hin).ports
  | readNotices => rfl
  | queryLease => rfl
  | queryChannel => rfl
  | queryDevice => rfl

/-- The record of a lease but for its queue, its deadline, its channels and its slots are unchanged. -/
structure LeaseKept (s u : State) (l : LeaseId) : Prop where
  lease : u.leases[l] = { s.leases[l] with queue := u.leases[l].queue }
  deadline : u.deadlines[l] = s.deadlines[l]
  outputs : ∀ c : ChannelId, s.inLease l c = true → u.channels[c] = s.channels[c] ∧ u.slots[c] = s.slots[c]

theorem LeaseKept.refl (s : State) (l : LeaseId) : LeaseKept s s l := ⟨rfl, rfl, fun _ _ => ⟨rfl, rfl⟩⟩

theorem LeaseKept.respond {s u : State} {l : LeaseId} (h : LeaseKept s u l) (p : Port) (st : Status) (tag : Byte)
    (body : List Byte) : LeaseKept s (u.respond p st tag body) l := by
  obtain ⟨hlease, hdeadline, houtputs⟩ := h
  constructor
  · rw [State.respond_leases]
    exact hlease
  · rw [State.respond_deadlines]
    exact hdeadline
  · rw [State.respond_channels, State.respond_slots]
    exact houtputs

/-- What is done to one lease keeps every other (R69). -/
theorem LocalTo.leaseKept {w : Event → Prop} {s u : State} {l l' : LeaseId} (h : Sound w s) (hl : LocalTo l' s u)
    (hne : l ≠ l') : LeaseKept s u l := by
  refine ⟨by rw [hl.leases l hne], hl.deadlines l hne, fun c hc => ?_⟩
  have hout := h.not_inLease_of_ne hc hne.symm
  exact ⟨hl.channels c hout, hl.slots c hout⟩

theorem LeaseKept.of_queue (s : State) (l l' : LeaseId) (f : List Waiter → List Waiter) :
    LeaseKept s (s.modLease l' fun r => { r with queue := f r.queue }) l := by
  refine ⟨?_, rfl, fun _ _ => ⟨rfl, rfl⟩⟩
  rw [State.modLease_get]
  split
  next heq => rw [heq]
  next => rfl

/-- An accepted request of a port that neither holds a live lease nor is the supervisor keeps that lease (R22, R141). -/
theorem Accepted.leaseKept {w : Event → Prop} {s u : State} {p : Port} {q : HostRequest} {l : LeaseId} (h : Sound w s)
    (haccepted : Accepted s p q u) (hp : p ≠ 0) (hlive : s.leases[l].live = true) (hheld : s.leases[l].heldBy p = false) :
    LeaseKept s u l := by
  have hother {l' : LeaseId} (hholder : s.leases[l'].heldBy p = true) : l ≠ l' := by
    rintro rfl
    exact Bool.noConfusion (hheld.symm.trans hholder)
  cases haccepted with
  | define _ _ hport | undefine _ hport | configureChannel _ _ _ _ hport | revoke _ hport | resetLeases hport =>
    exact absurd hport hp
  | acquire l' _ _ _ hstate =>
    refine (s.grant_localTo l' ..).leaseKept h ?_
    rintro rfl
    exact Lease.state_ne_vacant_of_live hlive hstate
  | queue l' term => exact .of_queue s l l' fun queue => queue ++ [{ port := p, term := term }]
  | withdraw l' => exact .of_queue s l l' fun queue => queue.filter fun w => w.port != p
  | renew l' _ _ hholder => exact (s.renewed_localTo l' _).leaseKept h (hother hholder)
  | transfer l' _ _ w hholder => exact (s.transferred_localTo l' w).leaseKept h (hother hholder)
  | release l' _ hholder => exact (s.lapse_localTo l' _).leaseKept h (hother hholder)
  | stage l' _ _ _ hholder hin => exact (s.setSlot_localTo hin _).leaseKept h (hother hholder)
  | discard l' _ _ hholder hin => exact (s.setSlot_localTo hin _).leaseKept h (hother hholder)
  | commit l' _ hholder => exact (s.committed_localTo l').leaseKept h (hother hholder)
  | resume l' _ hholder => exact (s.resumed_localTo l').leaseKept h (hother hholder)
  | park l' _ _ hholder hin => exact (s.parkListed_localTo hin).leaseKept h (hother hholder)
  | readNotices => exact ⟨rfl, rfl, fun _ _ => ⟨rfl, rfl⟩⟩
  | queryLease | queryChannel | queryDevice => exact .refl s l

/-- The take of a request of a known code refuses it, or answers an accepted one. -/
theorem exec_command_cases {s : State} {p : Port} {r : Request} {k : ReqCode} (hn : s.nextRequest = some (p, r))
    (hc : r.code = k.byte) :
    (∃ st : Status, exec k.command s = .next (s.respond p st r.tag [])) ∨
      ∃ (q : HostRequest) (u : State) (st : Status) (body : List Byte),
        Accepted s p q u ∧ exec k.command s = .next (u.respond p st r.tag body) := by
  cases hd : decodeBody k r.body with
  | none => exact .inl ⟨_, exec_command_of_undecodable hn hc hd⟩
  | some q =>
    have hexec := exec_command_of_decoded hn hc hd
    cases hj : s.judge p q with
    | refuse st =>
      rw [hj] at hexec
      exact .inl ⟨st, hexec⟩
    | accept st body u =>
      rw [hj] at hexec
      exact .inr ⟨q, u, st, body, State.accepted_of_judge hj, hexec⟩

end Sys2Proof.Machine

namespace Sys2Proof.Claims

open Sys2Proof.Machine

/-- Settles O47: no code names it, or no request in range is laid out so. -/
theorem malformedRequestsAreAnsweredSo : Obligations.MalformedRequestsAreAnsweredSo := by
  intro s p r hn
  refine ⟨fun hunknown => ?_, fun k hc hbody => ?_⟩
  · refine exec_unknownRequest_of_next hn (Option.eq_none_iff_forall_not_mem.mpr fun k hk => ?_)
    exact hunknown k ((requestCode_eq_byte k).trans (ReqCode.byte_of_ofByte hk))
  · refine exec_command_of_undecodable hn (hc.trans (requestCode_eq_byte k))
      (Option.eq_none_iff_forall_not_mem.mpr fun q hq => ?_)
    obtain ⟨hlayout, hrange⟩ := layout_decodeBody hq
    exact hbody q (decodeBody_code hq) hrange hlayout

/-- Settles O48: the search finds the first port in its order, and every answer is one write of the port's record. -/
theorem everyTakenRequestIsAnswered : Obligations.EveryTakenRequestIsAnswered := by
  refine ⟨State.nextRequest_eq_some_iff, State.nextRequest_eq_none_iff, fun s p r hn => ?_⟩
  cases hcode : ReqCode.ofByte r.code with
  | none => exact ⟨_, _, _, _, .inl rfl, exec_unknownRequest_of_next hn hcode, rfl, rfl⟩
  | some k =>
    have hbyte := (ReqCode.byte_of_ofByte hcode).symm
    have hk : r.code = requestCode k := hbyte.trans (requestCode_eq_byte k).symm
    obtain ⟨st, hexec⟩ | ⟨q, u, st, body, haccepted, hexec⟩ := exec_command_cases hn hbyte
    · exact ⟨_, _, st, [], .inr ⟨k, hk, rfl⟩, hexec, rfl, rfl⟩
    · exact ⟨_, _, st, body, .inr ⟨k, hk, rfl⟩, hexec, rfl, by simp only [State.respond_ports, haccepted.ports_eq]⟩

/-- Settles O49, check by check. -/
theorem commonChecksAnswerInOrder : Obligations.CommonChecksAnswerInOrder := by
  refine ⟨fun s p tag q htakes hq hp => ?_, fun s p tag q l e inGrace htakes hq => ?_⟩
  · rw [exec_of_takes htakes, judge_of_supervisorRequest hq hp]
    rfl
  · obtain ⟨rest, k, hjudge⟩ := judge_of_holderFields hq s p
    rw [exec_of_takes htakes, hjudge, checked_holderChecks]
    have hdefined (hheld : s.leases[l].heldBy p = true) := Lease.state_ne_undefined_of_heldBy hheld
    refine ⟨fun hs => ?_, fun hs hheld => ?_, fun hheld hepoch => ?_, fun hheld hepoch hgrace hnot => ?_⟩
    · rw [if_pos hs]
      rfl
    · rw [if_neg hs, if_pos hheld]
      rfl
    · rw [if_neg (hdefined hheld), if_neg (ne_false_of_eq_true hheld), if_pos hepoch]
      rfl
    · rw [if_neg (hdefined hheld), if_neg (ne_false_of_eq_true hheld), if_neg (not_not_intro hepoch), if_pos ⟨hgrace, hnot⟩]
      rfl

/-- Settles O60: a refusal touches no lease, and an accepted request of another port is about another lease or about the queue. -/
theorem otherHostsCannotTouchAHeldLease : Obligations.OtherHostsCannotTouchAHeldLease := by
  intro s t k p r l hlawful hnext hp hlive hheld hexec
  obtain ⟨hn, hc⟩ := hnext
  have hkept : LeaseKept s t l := by
    obtain ⟨st, hrefused⟩ | ⟨q, u, st, body, haccepted, hanswered⟩ :=
      exec_command_cases hn (hc.trans (requestCode_eq_byte k))
    · cases hrefused.symm.trans hexec
      exact (LeaseKept.refl s l).respond ..
    · cases hanswered.symm.trans hexec
      exact (haccepted.leaseKept hlawful.sound hp hlive hheld).respond ..
  exact ⟨hkept.lease, hkept.deadline, hkept.outputs⟩

end Sys2Proof.Claims
end

section
/-! SUPPORT. Counting and period ends, as whole-state equations. -/

namespace Sys2Proof.Machine

open Sys2Proof.Claims

/-! ### The conditions of a count -/

theorem lastCount_iff (ps : ParamSet) (ch : Channel) : lastCount ps ch.counter ch.direction = true ↔ AtLastCount ch ps := by
  rw [lastCount]
  cases hmode : ps.mode <;> simp [AtLastCount, hmode]

theorem State.reportsPeriodEnd_iff (s : State) (c : ChannelId) (ps : ParamSet) :
    s.reportsPeriodEnd c ps = true ↔ Reported s c ps := by
  have hleads : (s.leadPending c).isSome = true ↔ ∃ l : LeaseId, LeadsPending s c l := by
    rw [Option.isSome_iff_exists]
    exact exists_congr fun l => State.leadPending_eq_some_iff
  rw [State.reportsPeriodEnd, Bool.or_eq_true, Bool.or_eq_true, beq_iff_eq, beq_iff_eq, hleads, or_assoc]

theorem nextCount_of_ne_centre {ps : ParamSet} (h : ps.mode ≠ .centre) (k : Word16) (d : Direction) :
    nextCount ps k d = (k + 1, .up) := by
  unfold nextCount
  cases hmode : ps.mode with
  | edge | single => rfl
  | centre => exact absurd hmode h

theorem nextCount_down {ps : ParamSet} (h : ps.mode = .centre) (k : Word16) : nextCount ps k .down = (k - 1, .down) := by
  simp only [nextCount, h]

theorem nextCount_up {ps : ParamSet} (h : ps.mode = .centre) (k : Word16) :
    nextCount ps k .up = if k = ps.period then (ps.period - 1, .down) else (k + 1, .up) := by
  simp only [nextCount, h, beq_iff_eq]

/-- The count that follows one whose period end is not reported (R76, R77). -/
def countAfter (ps : ParamSet) (x : Word16 × Direction) : Word16 × Direction :=
  if lastCount ps x.1 x.2 then (0, .up) else nextCount ps x.1 x.2

/-- The state with a channel at a count, driving the level the count gives (R70). -/
def State.atCount (s : State) (c : ChannelId) (ps : ParamSet) (x : Word16 × Direction) : State :=
  { s with
    channels := s.channels.set c.val { s.channels[c] with counter := x.1, direction := x.2, level := levelAt ps x.1 } }

theorem Channel.countedOn_of_not_held {ch : Channel} (h : ch.hold = false) (ps : ParamSet) :
    ch.countedOn ps = { ch with counter := 0, direction := .up, level := levelAt ps 0 } := by
  rw [levelAt_eq, Channel.countedOn, ← h]

theorem Channel.advanced_eq (ch : Channel) (ps : ParamSet) :
    ch.advanced ps =
      { ch with
        counter := (nextCount ps ch.counter ch.direction).1
        direction := (nextCount ps ch.counter ch.direction).2
        level := levelAt ps (nextCount ps ch.counter ch.direction).1 } := by
  rw [levelAt_eq, Channel.advanced]

theorem counting_iff_claim (ch : Channel) : ch.counting = true ↔ Counting ch := ch.counting_iff

/-- COUNT of a counting channel with no reported period end goes to the next count (R71, R76, R77). -/
theorem exec_count_of_counting {s : State} {c : ChannelId} {ps : ParamSet} (hactive : s.channels[c].active = some ps)
    (hcounting : Counting s.channels[c]) (hnot : ¬(AtLastCount s.channels[c] ps ∧ Reported s c ps)) :
    exec (.count c.val) s = .next (s.atCount c ps (countAfter ps (s.channels[c].counter, s.channels[c].direction))) := by
  rw [exec, execCount, onChannel_val, State.counted, hactive]
  dsimp only
  rw [if_pos ((counting_iff_claim _).mpr hcounting), countAfter]
  dsimp only
  by_cases hlast : AtLastCount s.channels[c] ps
  · have hsilent : ¬s.reportsPeriodEnd c ps = true := fun hr => hnot ⟨hlast, (s.reportsPeriodEnd_iff c ps).mp hr⟩
    rw [if_pos ((lastCount_iff ..).mpr hlast), if_neg hsilent, if_pos ((lastCount_iff ..).mpr hlast), State.modChannel,
      Channel.countedOn_of_not_held hcounting.2]
    rfl
  · rw [if_neg (mt (lastCount_iff ..).mp hlast), if_neg (mt (lastCount_iff ..).mp hlast), State.modChannel, Channel.advanced_eq]
    rfl

/-- The level held at a reported period end, as the statements write it (R80). -/
theorem holdLevel_eq {ps : ParamSet} (hvalid : ps.valid = true) :
    holdLevel ps =
      match ps.mode with
      | .edge => levelAt ps (ps.period - 1)
      | .centre => levelAt ps 1
      | .single => if ps.polarity = .activeHigh then .low else .high := by
  obtain ⟨hperiod, -⟩ := ps.valid_iff.mp hvalid
  rw [holdLevel]
  cases ps.mode with
  | edge =>
    have hlast : ps.period ≤ ps.width ↔ ps.period - 1 < ps.width := by bv_omega
    simp only [levelAt_eq, countLevel, hlast]
  | centre =>
    have hlast : 2#16 ≤ ps.width ↔ 1 < ps.width := by bv_omega
    simp only [levelAt_eq, countLevel, hlast]
  | single =>
    dsimp only
    rw [inactiveLevel]
    cases ps.polarity <;> rfl

/-! ### The take of a period end -/

theorem Channel.underHold_iff (ch : Channel) (n : Nat) : ch.underHold n = true ↔ ch.hold = true ∧ ch.holdSerial = n := by
  rw [Channel.underHold, Bool.and_eq_true, beq_iff_eq]

theorem Channel.parked_lease (ch : Channel) : ch.parked.lease = ch.lease := by
  unfold Channel.parked
  split <;> rfl

theorem exec_periodEndTake_of_held {s : State} {c : ChannelId} {n : Nat} (hdue : s.duePeriodEnd c = some n)
    (hhold : s.channels[c].hold = true) (hserial : s.channels[c].holdSerial = n) :
    exec (.periodEndTake c.val) s = .next ((s.dropDue (.periodEnd c n)).boundaryTaken c) := by
  rw [exec, execPeriodEndTake, onChannel_val, hdue]
  dsimp only
  rw [State.dropDue_channels, if_pos ((Channel.underHold_iff ..).mpr ⟨hhold, hserial⟩)]

theorem State.boundaryTaken_of_parking {s : State} {c : ChannelId} {l : LeaseId} (hstate : s.channels[c].state = .parking)
    (hlease : s.channels[c].lease = some l) :
    s.boundaryTaken c = State.completeIfParked { s with channels := s.channels.set c.val (parkedAtOnce s.channels[c]) } l := by
  have hkept : (s.modChannel c fun ch => ch.parked).channels[c].lease = some l := by
    rw [State.modChannel_get, if_pos rfl, Channel.parked_lease, hlease]
  rw [State.boundaryTaken, if_pos hstate, State.completeForChannel, hkept, parkedAtOnce_eq]
  rfl

theorem State.boundaryTaken_of_leads {s : State} {c : ChannelId} {l : LeaseId} (hstate : s.channels[c].state = .running)
    (hleads : LeadsPending s c l) : s.boundaryTaken c = s.boundaryCommit l c := by
  rw [State.boundaryTaken, if_neg (by rw [hstate]; decide), State.leadPending_eq_some_iff.mpr hleads]

theorem State.boundaryTaken_of_not_leads {s : State} {c : ChannelId} (hstate : s.channels[c].state = .running)
    (hnone : ∀ l : LeaseId, ¬LeadsPending s c l) : s.boundaryTaken c = s.boundaryPassed c := by
  rw [State.boundaryTaken, if_neg (by rw [hstate]; decide), State.leadPending_eq_none_iff.mpr hnone]

/-- The last two cases of R81, of a channel of a held lease. -/
theorem State.boundaryPassed_eq {s : State} {c : ChannelId} {l : LeaseId} {ps : ParamSet} {p : Port}
    (hactive : s.channels[c].active = some ps) (hlease : s.channels[c].lease = some l)
    (hholder : s.leases[l].holder = some p) :
    s.boundaryPassed c =
      if ps.mode = .single then (s.modChannel c fun ch => endedOn ch ps).post p l .singleEnded
      else s.modChannel c fun ch => countedFromZero ch ps := by
  have hkept : (s.modChannel c fun ch => ch.endedSingle ps).channels[c].lease = some l := by
    rw [State.modChannel_get, if_pos rfl]
    exact hlease
  rw [State.boundaryPassed, hactive]
  dsimp only
  rw [State.postChannelHolder, hkept]
  dsimp only
  rw [State.postHolder_of_holder (s := s.modChannel c fun ch => ch.endedSingle ps) (p := p) hholder]
  simp only [endedOn_eq, countedFromZero_eq]

/-- A commit under a boundary starts a lead with a staged set (R99, R100). -/
theorem State.boundaryCommit_of_staged {s : State} {c : ChannelId} {l : LeaseId} (hin : s.inLease l c = true)
    (hstaged : s.slots[c].isSome = true) : s.boundaryCommit l c = s.executeCommit l := by
  rw [State.boundaryCommit, hstaged, hin]
  rfl

/-- A lead without a staged set goes on by its mode once the commit has executed (R100, R103). -/
theorem State.boundaryCommit_of_unstaged {s : State} {c : ChannelId} {l : LeaseId} {ps : ParamSet} {p : Port}
    (hin : s.inLease l c = true) (hslot : s.slots[c] = none) (hactive : s.channels[c].active = some ps)
    (hlease : s.channels[c].lease = some l) (hholder : s.leases[l].holder = some p) :
    s.boundaryCommit l c =
      if ps.mode = .single then ((s.executeCommit l).modChannel c fun ch => endedOn ch ps).post p l .singleEnded
      else (s.executeCommit l).modChannel c fun ch => countedFromZero ch ps := by
  have hself : (s.executeCommit l).channels[c] = s.channels[c] := by rw [State.executeCommit_get hin, hslot]; rfl
  have hkept : (s.executeCommit l).leases[l].holder = some p := by
    rw [State.executeCommit_leases, getElem_set_fin, if_pos rfl]
    exact hholder
  rw [State.boundaryCommit, hslot, Option.isSome_none, Bool.false_and, if_neg Bool.false_ne_true,
    State.boundaryPassed_eq (by rw [hself]; exact hactive) (by rw [hself]; exact hlease) hkept]

end Sys2Proof.Machine

namespace Sys2Proof.Claims

open Sys2Proof.Machine

/-- Settles O14, by whether the count is the last of its period, then by the mode. -/
theorem countFollowsTheMode : Obligations.CountFollowsTheMode := by
  intro s c ps hactive
  refine ⟨fun hcounting hnot => ?counts, fun hidle => ?idle⟩
  case counts =>
    refine ⟨_, _, exec_count_of_counting hactive hcounting hnot, ?_⟩
    by_cases hlast : AtLastCount s.channels[c] ps
    · have hafter : countAfter ps (s.channels[c].counter, s.channels[c].direction) = (0, .up) :=
        if_pos ((lastCount_iff ..).mpr hlast)
      have hdown (hmode : ps.mode = .centre) (hup : s.channels[c].direction = .up) : False := by
        obtain ⟨hother, -⟩ | ⟨-, hdown, -⟩ := hlast
        · exact hother hmode
        · cases hup.symm.trans hdown
      rw [hafter]
      exact ⟨fun _ => ⟨rfl, rfl⟩, absurd hlast, absurd hlast, fun hmode hup => (hdown hmode hup).elim,
        fun hmode hup => (hdown hmode hup).elim⟩
    · have hafter : countAfter ps (s.channels[c].counter, s.channels[c].direction) =
          nextCount ps s.channels[c].counter s.channels[c].direction := if_neg (mt (lastCount_iff ..).mp hlast)
      rw [hafter]
      refine ⟨fun h => absurd h hlast, fun _ hmode => ?_, fun _ hmode hdown => ?_, fun hmode hup hne => ?_,
        fun hmode hup heq => ?_⟩
      · rw [nextCount_of_ne_centre hmode]
        exact ⟨rfl, rfl⟩
      · rw [hdown, nextCount_down hmode]
        exact ⟨rfl, rfl⟩
      · rw [hup, nextCount_up hmode, if_neg hne]
        exact ⟨rfl, rfl⟩
      · rw [hup, nextCount_up hmode, if_pos heq]
        exact ⟨rfl, rfl⟩
  case idle =>
    rw [exec, execCount, onChannel_val, State.counted, hactive]
    dsimp only
    obtain hstill | ⟨hlast, hreported⟩ := hidle
    · rw [if_neg (mt (counting_iff_claim _).mp hstill)]
    · rw [if_pos ((lastCount_iff ..).mpr hlast), if_pos ((s.reportsPeriodEnd_iff c ps).mpr hreported), ite_self]

/-- Settles O17, by the condition of R80. -/
theorem reportedPeriodEndHoldsChannel : Obligations.ReportedPeriodEndHoldsChannel := by
  intro s c ps hactive hvalid hcounting
  have hcond : (s.channels[c].counting && lastCount ps s.channels[c].counter s.channels[c].direction &&
      s.reportsPeriodEnd c ps) = true ↔ AtLastCount s.channels[c] ps ∧ Reported s c ps := by
    rw [(counting_iff_claim _).mpr hcounting, Bool.true_and, Bool.and_eq_true, lastCount_iff, State.reportsPeriodEnd_iff]
  rw [exec, execPeriodEnd, onChannel_val, State.periodEnded, hactive]
  dsimp only
  refine ⟨fun hlast hreported => ?_, fun hnot => ?_⟩
  · rw [if_pos (hcond.mpr ⟨hlast, hreported⟩), State.raise_eq, if_neg (List.cons_ne_nil _ _), State.modChannel,
      Channel.heldAtEnd, holdLevel_eq hvalid] <;> rfl
  · rw [if_neg (mt hcond.mp hnot)]

/-- Settles O18, by whether the hold named still stands. -/
theorem periodEndTakeIgnoresEndedHoldsAndParks : Obligations.PeriodEndTakeIgnoresEndedHoldsAndParks := by
  refine ⟨fun s c n hdue hended => ?_, fun s c n l hdue hhold hserial hstate hlease => ?_⟩
  · rw [exec, execPeriodEndTake, onChannel_val, hdue]
    dsimp only
    rw [State.dropDue_channels, if_neg (mt (Channel.underHold_iff ..).mp hended)]
  · have hchannels := s.dropDue_channels (.periodEnd c n)
    rw [exec_periodEndTake_of_held hdue hhold hserial, ← hchannels]
    exact congrArg Host.Outcome.next
      (State.boundaryTaken_of_parking (by rw [hchannels]; exact hstate) (by rw [hchannels]; exact hlease))

/-- Settles O19: the pending commit executes, and a lead it did not start goes on by its mode. -/
theorem boundaryExecutesThePendingCommit : Obligations.BoundaryExecutesThePendingCommit := by
  intro s c n l ps p hdue hhold hserial hstate hleads hin hactive hholder
  have hchannels := s.dropDue_channels (.periodEnd c n)
  have hleases := s.dropDue_leases (.periodEnd c n)
  have hslots := s.dropDue_slots (.periodEnd c n)
  rw [exec_periodEndTake_of_held hdue hhold hserial]
  generalize s.dropDue (.periodEnd c n) = t at hchannels hleases hslots
  have hin : t.inLease l c = true := (State.inLease_congr (by rw [hleases]) c).trans hin
  have hlease : t.channels[c].lease = some l := by rw [hchannels]; exact hleads.1
  rw [State.boundaryTaken_of_leads (l := l) (by rw [hchannels]; exact hstate)
    ⟨hlease, by rw [hleases]; exact hleads.2.1, by rw [hleases]; exact hleads.2.2⟩]
  have hunstaged (hslot : s.slots[c] = none) := State.boundaryCommit_of_unstaged (s := t) (ps := ps) (p := p) hin
    (by rw [hslots]; exact hslot) (by rw [hchannels]; exact hactive) hlease (by rw [hleases]; exact hholder)
  refine ⟨fun hstaged => ?_, fun hslot hmode => ?_, fun hslot hmode => ?_⟩
  · rw [State.boundaryCommit_of_staged hin (by rw [hslots]; exact hstaged)]
  · rw [hunstaged hslot, if_neg hmode]
  · rw [hunstaged hslot, if_pos hmode]

/-- Settles O20, by the mode of the set. -/
theorem singleChannelEndsOthersCountOn : Obligations.SingleChannelEndsOthersCountOn := by
  intro s c n l ps p hdue hhold hserial hstate hlease hnot hactive hholder
  have hchannels := s.dropDue_channels (.periodEnd c n)
  have hleases := s.dropDue_leases (.periodEnd c n)
  rw [exec_periodEndTake_of_held hdue hhold hserial, ← hchannels]
  generalize s.dropDue (.periodEnd c n) = t at hchannels hleases
  have hlease : t.channels[c].lease = some l := by rw [hchannels]; exact hlease
  have hnone (l' : LeaseId) : ¬LeadsPending t c l' := by
    rintro ⟨hl', hlead, hpending⟩
    obtain rfl : l = l' := Option.some.inj (hlease.symm.trans hl')
    exact hnot ⟨by rw [← hchannels]; exact hlease, by rw [← hleases]; exact hlead, by rw [← hleases]; exact hpending⟩
  rw [State.boundaryTaken_of_not_leads (by rw [hchannels]; exact hstate) hnone,
    State.boundaryPassed_eq (by rw [hchannels]; exact hactive) hlease (by rw [hleases]; exact hholder)]
  rfl

end Sys2Proof.Claims
end

section
/-! SUPPORT. Runs of counts (R76, R77), and the two ends of a transaction. -/

namespace Sys2Proof.Machine

open Sys2Proof.Claims

/-! ### Runs of one command -/

theorem run_succ_of_next {M : Host.Core} {n : Nat} {s s' : M.State} (h : M.step s = .next s') :
    M.run (n + 1) s = M.run n s' := by
  rw [Host.Core.run, h]

/-- A command that moves a family of states one step on, whatever commands wait behind it, moves it `k` steps in a run of `k`. -/
theorem run_replicate {i : Instr} {f : Nat → State}
    (hstep : ∀ (j : Nat) (rest : List Instr), exec i { f j with pending := rest } = .next { f (j + 1) with pending := rest })
    (k j : Nat) : core.run k { f j with pending := List.replicate k i } = .next { f (j + k) with pending := [] } := by
  induction k generalizing j with
  | zero => rfl
  | succ k ih =>
    have hfirst : core.step { f j with pending := List.replicate (k + 1) i } =
        .next { f (j + 1) with pending := List.replicate k i } := hstep j (List.replicate k i)
    rw [Nat.add_comm k 1, ← Nat.add_assoc, Nat.add_comm 1 k]
    exact (run_succ_of_next (M := core) hfirst).trans (ih (j + 1))

theorem State.atCount_get (s : State) (c : ChannelId) (ps : ParamSet) (x : Word16 × Direction) :
    (s.atCount c ps x).channels[c] = { s.channels[c] with counter := x.1, direction := x.2, level := levelAt ps x.1 } :=
  (getElem_set_fin ..).trans (if_pos rfl)

theorem State.atCount_atCount (s : State) (c : ChannelId) (ps : ParamSet) (x y : Word16 × Direction) :
    (s.atCount c ps x).atCount c ps y = s.atCount c ps y := by
  rw [State.atCount, State.atCount_get]
  simp only [State.atCount, Vector.set_set]

/-- A channel already at a count, driving its level. -/
theorem State.atCount_self {s : State} {c : ChannelId} {ps : ParamSet} {x : Word16 × Direction}
    (hcounter : s.channels[c].counter = x.1) (hdirection : s.channels[c].direction = x.2)
    (hlevel : s.channels[c].level = levelAt ps x.1) : s.atCount c ps x = s := by
  have hset : s.channels.set c.val s.channels[c] = s.channels := vector_ext_fin fun c' => by
    rw [getElem_set_fin]
    split
    · next heq => rw [heq]
    · rfl
  rw [State.atCount, ← hlevel, ← hcounter, ← hdirection, hset]

/-- A RUNNING channel whose period ends are not reported goes from count to count (R71, R76, R77). -/
theorem run_counts {s : State} {c : ChannelId} {ps : ParamSet} (hactive : s.channels[c].active = some ps)
    (hmode : ps.mode ≠ .single) (hstate : s.channels[c].state = .running) (hhold : s.channels[c].hold = false)
    (hcounter : s.channels[c].counter = 0) (hdirection : s.channels[c].direction = .up)
    (hlevel : s.channels[c].level = levelAt ps 0) (hnone : ∀ l : LeaseId, ¬LeadsPending s c l) (k : Nat) :
    core.run k { s with pending := List.replicate k (.count c.val) } =
      .next { s.atCount c ps ((countAfter ps)^[k] (0, .up)) with pending := [] } := by
  have hstep (j : Nat) (rest : List Instr) :
      exec (.count c.val) { s.atCount c ps ((countAfter ps)^[j] (0, .up)) with pending := rest } =
        .next { s.atCount c ps ((countAfter ps)^[j + 1] (0, .up)) with pending := rest } := by
    rw [Function.iterate_succ_apply']
    generalize (countAfter ps)^[j] (0, .up) = x
    let t : State := { s.atCount c ps x with pending := rest }
    have hget : t.channels[c] = { s.channels[c] with counter := x.1, direction := x.2, level := levelAt ps x.1 } :=
      State.atCount_get ..
    have hleads (l : LeaseId) : ¬LeadsPending t c l := by
      rintro ⟨hl, hlead⟩
      rw [hget] at hl
      exact hnone l ⟨hl, hlead⟩
    have hsilent : ¬Reported t c ps := by
      rintro (hparking | hsingle | ⟨l, hl⟩)
      · rw [hget] at hparking
        cases hstate.symm.trans hparking
      · exact hmode hsingle
      · exact hleads l hl
    have hcount := exec_count_of_counting (s := t) (c := c) (ps := ps) (by rw [hget]; exact hactive)
      (by rw [hget]; exact ⟨.inl hstate, hhold⟩) fun h => hsilent h.2
    rw [hget] at hcount
    rw [hcount]
    exact congrArg (fun u : State => Host.Outcome.next { u with pending := rest }) (s.atCount_atCount c ps x _)
  have hstart : s.atCount c ps ((countAfter ps)^[0] (0, .up)) = s := State.atCount_self hcounter hdirection hlevel
  have hrun := run_replicate hstep k 0
  rw [hstart, Nat.zero_add] at hrun
  exact hrun

/-! ### Where the counts of a period stand -/

theorem succ_mod_eq_ite {n : Nat} (hn : 0 < n) (k : Nat) : (k + 1) % n = if k % n + 1 = n then 0 else k % n + 1 := by
  have hlt := Nat.mod_lt k hn
  rw [← Nat.mod_add_mod]
  split
  · next heq => rw [heq, Nat.mod_self]
  · exact Nat.mod_eq_of_lt (by omega)

/-- After `k` counts an EDGE channel stands at `k` modulo its period (R76). -/
theorem iterate_countAfter_edge {ps : ParamSet} (hmode : ps.mode = .edge) (hvalid : ps.valid = true) (k : Nat) :
    (countAfter ps)^[k] (0, .up) = (BitVec.ofNat 16 (k % ps.period.toNat), .up) := by
  obtain ⟨hperiod, -⟩ := ps.valid_iff.mp hvalid
  have hpos : 0 < ps.period.toNat := by bv_omega
  induction k with
  | zero => rfl
  | succ k ih =>
    have hlt := Nat.mod_lt k hpos
    have hword := ps.period.isLt
    rw [Function.iterate_succ_apply', ih, countAfter, succ_mod_eq_ite hpos]
    generalize k % ps.period.toNat = j at hlt
    have hlast : lastCount ps (BitVec.ofNat 16 j) .up = true ↔ j + 1 = ps.period.toNat := by
      simp only [lastCount, hmode, beq_iff_eq]
      bv_omega
    dsimp only
    by_cases hj : j + 1 = ps.period.toNat
    · rw [if_pos (hlast.mpr hj), if_pos hj]
      rfl
    · rw [if_neg (mt hlast.mp hj), if_neg hj, nextCount_of_ne_centre (by rw [hmode]; decide), BitVec.ofNat_add]
      rfl

/-- Where a CENTRE channel of a period stands at a place of its 2 × period counts (R77). -/
def centrePlace (period j : Nat) : Word16 × Direction :=
  if j ≤ period then (BitVec.ofNat 16 j, .up) else (BitVec.ofNat 16 (2 * period - j), .down)

theorem lastCount_up {ps : ParamSet} (hmode : ps.mode = .centre) (k : Word16) : ¬lastCount ps k .up = true := by
  simp [lastCount, hmode]

theorem lastCount_down {ps : ParamSet} (hmode : ps.mode = .centre) (k : Word16) : lastCount ps k .down = true ↔ k = 1 := by
  simp [lastCount, hmode]

/-- One count moves a CENTRE channel one place on (R77). -/
theorem countAfter_centrePlace {ps : ParamSet} (hmode : ps.mode = .centre) (hvalid : ps.valid = true) {j : Nat}
    (hj : j < 2 * ps.period.toNat) :
    countAfter ps (centrePlace ps.period.toNat j) =
      centrePlace ps.period.toNat (if j + 1 = 2 * ps.period.toNat then 0 else j + 1) := by
  obtain ⟨hperiod, -⟩ := ps.valid_iff.mp hvalid
  have hperiod : 2 ≤ ps.period.toNat := by bv_omega
  have hword := ps.period.isLt
  have hup (i : Nat) (hi : i ≤ ps.period.toNat) : centrePlace ps.period.toNat i = (BitVec.ofNat 16 i, .up) := if_pos hi
  have hdown (i : Nat) (hi : ps.period.toNat < i) :
      centrePlace ps.period.toNat i = (BitVec.ofNat 16 (2 * ps.period.toNat - i), .down) := if_neg (Nat.not_le.mpr hi)
  have hnext (hmore : j + 1 < 2 * ps.period.toNat) : (if j + 1 = 2 * ps.period.toNat then 0 else j + 1) = j + 1 :=
    if_neg hmore.ne
  obtain hbelow | htop | ⟨habove, hmore⟩ | hend :
      j < ps.period.toNat ∨ j = ps.period.toNat ∨ (ps.period.toNat < j ∧ j + 1 < 2 * ps.period.toNat) ∨
        j + 1 = 2 * ps.period.toNat := by omega
  · have hne : ¬BitVec.ofNat 16 j = ps.period := by bv_omega
    rw [hnext (by omega), hup j hbelow.le, hup (j + 1) hbelow, countAfter, if_neg (lastCount_up hmode _), nextCount_up hmode,
      if_neg hne, BitVec.ofNat_add]
    rfl
  · have heq : BitVec.ofNat 16 j = ps.period := by bv_omega
    have hturn : ps.period - 1 = BitVec.ofNat 16 (2 * ps.period.toNat - (j + 1)) := by bv_omega
    rw [hnext (by omega), hup j htop.le, hdown (j + 1) (by omega), countAfter, if_neg (lastCount_up hmode _), nextCount_up hmode,
      if_pos heq, hturn]
  · have hmany : ¬BitVec.ofNat 16 (2 * ps.period.toNat - j) = 1 := by bv_omega
    have hless : BitVec.ofNat 16 (2 * ps.period.toNat - j) - 1 = BitVec.ofNat 16 (2 * ps.period.toNat - (j + 1)) := by bv_omega
    rw [hnext hmore, hdown j habove, hdown (j + 1) (by omega), countAfter, if_neg (mt (lastCount_down hmode _).mp hmany),
      nextCount_down hmode, hless]
  · have hone : BitVec.ofNat 16 (2 * ps.period.toNat - j) = 1 := by bv_omega
    rw [if_pos hend, hdown j (by omega), hup 0 (Nat.zero_le _), countAfter, if_pos ((lastCount_down hmode _).mpr hone)]
    rfl

theorem iterate_countAfter_centre {ps : ParamSet} (hmode : ps.mode = .centre) (hvalid : ps.valid = true) (k : Nat) :
    (countAfter ps)^[k] (0, .up) = centrePlace ps.period.toNat (k % (2 * ps.period.toNat)) := by
  obtain ⟨hperiod, -⟩ := ps.valid_iff.mp hvalid
  have hpos : 0 < 2 * ps.period.toNat := by bv_omega
  induction k with
  | zero => rw [Nat.zero_mod, centrePlace, if_pos (Nat.zero_le _)]; rfl
  | succ k ih =>
    rw [Function.iterate_succ_apply', ih, countAfter_centrePlace hmode hvalid (Nat.mod_lt k hpos), succ_mod_eq_ite hpos]

/-! ### Transactions -/

theorem State.modPort_eq {s : State} {p : Port} {f : PortRecord → PortRecord} {pr : PortRecord} (h : f s.ports[p] = pr) :
    s.modPort p f = { s with ports := s.ports.set p.val pr } := by
  rw [State.modPort, h]

theorem statusCode_eq (st : Status) : statusCode st = st.byte := by cases st <;> rfl

/-- The port record when chip select has fallen (R124, R125). -/
def PortRecord.fallen (pr : PortRecord) : PortRecord :=
  if pr.selected then pr
  else
    match pr.presence with
    | .present =>
      { pr with selected := true, transaction := some { outward := pr.outwardFrame, carriesAnswer := pr.response.isReady } }
    | .leaving => { pr with selected := true }
    | .absent => { pr with selected := true }

theorem exec_csFall (s : State) (p : Port) : exec (.csFall p.val) s = .next (s.modPort p PortRecord.fallen) := by
  rw [exec, execCsFall, onPort_val]
  rfl

theorem PortRecord.fallen_of_present {pr : PortRecord} (hselected : pr.selected = false) (hpresent : pr.presence = .present) :
    pr.fallen =
      { pr with selected := true, transaction := some { outward := pr.outwardFrame, carriesAnswer := pr.response.isReady } } := by
  cases pr
  cases hselected
  cases hpresent
  rfl

theorem PortRecord.fallen_of_not_present {pr : PortRecord} (hselected : pr.selected = false) (hnot : pr.presence ≠ .present) :
    pr.fallen = { pr with selected := true } := by
  obtain ⟨presence⟩ := pr
  cases hselected
  cases presence with
  | present => exact absurd rfl hnot
  | leaving | absent => rfl

/-- The port record when chip select has risen (R127 to R130). -/
def PortRecord.risen (pr : PortRecord) (mosi : List Bool) : PortRecord :=
  if pr.selected then
    match pr.presence, pr.transaction with
    | .present, some t => pr.transacted t mosi
    | .present, none => { pr with selected := false }
    | .leaving, _ => { pr with selected := false, transaction := none }
    | .absent, _ => { pr with selected := false, transaction := none }
  else pr

theorem exec_csRise (s : State) (p : Port) (mosi : List Bool) :
    exec (.csRise p.val mosi) s = .next (s.modPort p fun pr => pr.risen mosi) := by
  rw [exec, execCsRise, onPort_val]
  rfl

theorem PortRecord.risen_of_present {pr : PortRecord} {t : Transaction} (hselected : pr.selected = true)
    (hpresent : pr.presence = .present) (htransaction : pr.transaction = some t) (mosi : List Bool) :
    pr.risen mosi = pr.transacted t mosi := by
  rw [PortRecord.risen, if_pos hselected, hpresent, htransaction]

theorem PortRecord.risen_of_none {pr : PortRecord} (hselected : pr.selected = true)
    (hnone : pr.presence ≠ .present ∨ pr.transaction = none) (mosi : List Bool) :
    pr.risen mosi = { pr with selected := false, transaction := none } := by
  obtain ⟨presence, request, response, transaction⟩ := pr
  cases hselected
  cases presence with
  | present =>
    obtain hnot | rfl := hnone
    · exact absurd rfl hnot
    · rfl
  | leaving | absent => rfl

/-- What the inward frame does to the slots (R129, R130). -/
theorem PortRecord.received_eq (pr : PortRecord) (i : Inward) :
    ∃ req resp,
      pr.received i = { pr with request := req, response := resp } ∧
        (pr.response ≠ .empty → req = pr.request ∧ resp = pr.response) ∧
        (pr.response = .empty → i = .nop → req = pr.request ∧ resp = .empty) ∧
        (∀ r : Request, pr.response = .empty → i = .valid r → req = some r ∧ resp = .waiting) ∧
        ∀ tag : Byte, pr.response = .empty → i = .invalid tag →
          req = pr.request ∧ resp = .ready { status := .frameError, tag := tag, body := [] } := by
  refine ⟨(pr.received i).request, (pr.received i).response, ?_⟩
  obtain ⟨presence, request, response⟩ := pr
  cases response with
  | empty =>
    refine ⟨by cases i <;> rfl, fun hne => absurd rfl hne, fun _ hi => ?_, fun r _ hi => ?_, fun tag _ hi => ?_⟩
    all_goals
      subst hi
      exact ⟨rfl, rfl⟩
  | waiting | ready =>
    exact ⟨rfl, fun _ => ⟨rfl, rfl⟩, (fun he => nomatch he), (fun _ he => nomatch he), fun _ he => nomatch he⟩

theorem ResponseSlot.afterDelivery_eq (slot : ResponseSlot) (t : Transaction) (clocked : Nat) :
    slot.afterDelivery t clocked = if t.carriesAnswer = true ∧ t.outward.length ≤ clocked then .empty else slot := by
  simp only [ResponseSlot.afterDelivery, Bool.and_eq_true, decide_eq_true_eq]

end Sys2Proof.Machine

namespace Sys2Proof.Claims

open Sys2Proof.Machine

/-- Settles O15, by induction on the counts. -/
theorem edgeChannelRunsItsPeriods : Obligations.EdgeChannelRunsItsPeriods := by
  intro s c ps k hactive hmode hvalid hstate hhold hcounter hdirection hlevel hnone
  have hrun := run_counts hactive (by rw [hmode]; decide) hstate hhold hcounter hdirection hlevel hnone k
  rw [iterate_countAfter_edge hmode hvalid] at hrun
  refine ⟨_, hrun, ?_⟩
  rw [State.atCount, ← hdirection]

/-- Settles O16, by induction on the counts, each of which moves the channel one place on. -/
theorem centreChannelRunsItsPeriods : Obligations.CentreChannelRunsItsPeriods := by
  intro s c ps k j hactive hmode hvalid hstate hhold hcounter hdirection hlevel hnone hj
  have hrun := run_counts hactive (by rw [hmode]; decide) hstate hhold hcounter hdirection hlevel hnone k
  rw [iterate_countAfter_centre hmode hvalid, ← hj] at hrun
  obtain ⟨hperiod, -⟩ := ps.valid_iff.mp hvalid
  have hword := ps.period.isLt
  have hlt : j < 2 * ps.period.toNat := by rw [hj]; exact Nat.mod_lt k (by bv_omega)
  have hget := s.atCount_get c ps (centrePlace ps.period.toNat j)
  refine ⟨_, hrun, ?_, ?_, ?_, ?_⟩
  · refine (congrArg (fun ch => ch.counter.toNat) hget).trans ?_
    dsimp only
    rw [centrePlace]
    split <;> simp only [BitVec.toNat_ofNat] <;> omega
  · refine (congrArg Channel.direction hget).trans ?_
    dsimp only
    rw [centrePlace]
    split <;> rfl
  · refine (congrArg Channel.level hget).trans ?_
    exact congrArg (levelAt ps) (congrArg Channel.counter hget).symm
  · exact (congrArg Channel.state hget).trans hstate

/-- Settles O26, by the response slot. -/
theorem chipSelectFallFixesTheOutwardFrame : Obligations.ChipSelectFallFixesTheOutwardFrame := by
  intro s p hselected
  refine ⟨fun frame ready hpresent hslot => ?_, fun hnot => ?_⟩
  · have hframe : s.ports[p].outwardFrame = frame ∧ s.ports[p].response.isReady = ready := by
      unfold PortRecord.outwardFrame
      obtain ⟨hresponse, rfl, rfl⟩ | ⟨r, hresponse, hrequest, rfl, rfl⟩ | ⟨a, hresponse, rfl, rfl⟩ := hslot
      · have hempty : frameOf Status.empty.byte 0 [] = [0x10, 0x00, 0x00, 0x89] := by
          simp [frameOf, Status.byte, crc8, crcFrom, crcByte, crcStep, Config.crcInit, Config.crcPoly]
        rw [hresponse]
        exact ⟨hempty, rfl⟩
      · rw [hresponse, hrequest]
        exact ⟨rfl, rfl⟩
      · rw [hresponse, statusCode_eq]
        exact ⟨rfl, rfl⟩
    rw [exec_csFall, State.modPort_eq (PortRecord.fallen_of_present hselected hpresent), hframe.1, hframe.2]
  · rw [exec_csFall, State.modPort_eq (PortRecord.fallen_of_not_present hselected hnot)]

/-- Settles O27, by the slot after delivery, then by what came in. -/
theorem chipSelectRiseDeliversThenPlaces : Obligations.ChipSelectRiseDeliversThenPlaces := by
  refine ⟨fun s p tr mosi slot hpresent hselected htransaction hslot => ?_, fun s p mosi hselected hnone => ?_⟩
  · have hdelivered : s.ports[p].response.afterDelivery tr (bytesOf mosi).length = slot := by
      rw [hslot, ResponseSlot.afterDelivery_eq]
    obtain ⟨req, resp, hreceived, hrest⟩ := PortRecord.received_eq
      { s.ports[p] with
        transaction := none, selected := false, miso := shiftedBits tr.outward mosi.length, response := slot }
      (readInward (bytesOf mosi))
    refine ⟨req, resp, ?_, hrest⟩
    have hrisen := PortRecord.risen_of_present hselected hpresent htransaction mosi
    rw [PortRecord.transacted] at hrisen
    rw [hdelivered] at hrisen
    rw [exec_csRise, State.modPort_eq (f := fun pr => pr.risen mosi) (hrisen.trans hreceived)]
  · rw [exec_csRise, State.modPort_eq (f := fun pr => pr.risen mosi) (PortRecord.risen_of_none hselected hnone mosi)]

end Sys2Proof.Claims
end

section
/-! SUPPORT. The bodies of the lookups, field by field. -/

namespace Sys2Proof

theorem Divider.exists_pow (d : Divider) : ∃ k : Nat, d.periods = 2 ^ k ∧ d.byte = BitVec.ofNat 8 k := by
  cases d
  exacts [⟨0, rfl, rfl⟩, ⟨1, rfl, rfl⟩, ⟨2, rfl, rfl⟩, ⟨3, rfl, rfl⟩, ⟨4, rfl, rfl⟩, ⟨5, rfl, rfl⟩, ⟨6, rfl, rfl⟩,
    ⟨7, rfl, rfl⟩, ⟨8, rfl, rfl⟩]

theorem ParkTiming.byte_eq (t : ParkTiming) : t.byte = if t = .atOnce then 0 else 1 := by cases t <;> rfl

theorem Polarity.byte_eq (p : Polarity) : p.byte = if p = .activeHigh then 0 else 1 := by cases p <;> rfl

end Sys2Proof

namespace Sys2Proof.Machine

open Sys2Proof.Claims

/-! ### The lengths of the parts -/

theorem exists_definitionBytes (d : Option LeaseDef) :
    ∃ b0 b1 b2 b3 b4 b5 b6 b7 b8 : Byte, definitionBytes d = [b0, b1, b2, b3, b4, b5, b6, b7, b8] := by
  cases d with
  | none => exact ⟨0, 0, 0, 0, 0, 0, 0, 0, 0, rfl⟩
  | some x => exact ⟨_, _, _, _, _, _, _, _, _, rfl⟩

theorem exists_queueSlotBytes (w : Option Waiter) : ∃ b0 b1 b2 : Byte, queueSlotBytes w = [b0, b1, b2] := by
  cases w with
  | none => exact ⟨_, _, _, rfl⟩
  | some x => exact ⟨_, _, _, rfl⟩

theorem exists_activeBytes (a : Option ParamSet) :
    ∃ b0 b1 b2 b3 b4 b5 b6 b7 b8 b9 : Byte, activeBytes a = [b0, b1, b2, b3, b4, b5, b6, b7, b8, b9] := by
  cases a with
  | none => exact ⟨0, 0, 0, 0, 0, 0, 0, 0, 0, 0, rfl⟩
  | some ps => exact ⟨_, _, _, _, _, _, _, _, _, _, rfl⟩

theorem exists_stagedBytes (x : Option StagedSet) : ∃ b0 b1 b2 : Byte, stagedBytes x = [b0, b1, b2] := by
  cases x with
  | none => exact ⟨_, _, _, rfl⟩
  | some st => exact ⟨_, _, _, rfl⟩

/-! ### QUERY_LEASE -/

/-- Every field of the QUERY_LEASE body at its offset, in the model's own bytes (R166). -/
theorem leaseBody_fields (s : State) (l : LeaseId) :
    (s.leaseBody l).length = 33 ∧
      (s.leaseBody l).take 3 = [s.leases[l].state.byte, holderByte s.leases[l].holder, s.leases[l].flagsByte] ∧
      ((s.leaseBody l).drop 3).take 2 = wordBytes s.leases[l].epoch ∧
      ((s.leaseBody l).drop 5).take 3 =
        (s.deadlines[l].elim 0 fun d => d.kind.byte) :: wordBytes (s.ticksRemaining l) ∧
      ((s.leaseBody l).drop 8).take 2 = wordBytes (s.leases[l].term.getD 0) ∧
      ((s.leaseBody l).drop 10).take 9 = definitionBytes s.leases[l].defn ∧
      ((s.leaseBody l).drop 19).take 2 = [reasonByte s.leases[l].reason, countByte s.leases[l].queue.length] ∧
      ∀ i : Nat, i < 4 → ((s.leaseBody l).drop (21 + 3 * i)).take 3 = queueSlotBytes s.leases[l].queue[i]? := by
  obtain ⟨_, _, _, _, _, _, _, _, _, hdefn⟩ := exists_definitionBytes s.leases[l].defn
  obtain ⟨_, _, _, hw0⟩ := exists_queueSlotBytes s.leases[l].queue[0]?
  obtain ⟨_, _, _, hw1⟩ := exists_queueSlotBytes s.leases[l].queue[1]?
  obtain ⟨_, _, _, hw2⟩ := exists_queueSlotBytes s.leases[l].queue[2]?
  obtain ⟨_, _, _, hw3⟩ := exists_queueSlotBytes s.leases[l].queue[3]?
  unfold State.leaseBody
  dsimp only
  rw [hdefn, hw0, hw1, hw2, hw3]
  refine ⟨rfl, rfl, rfl, rfl, rfl, rfl, rfl, fun i hi => ?_⟩
  obtain rfl | rfl | rfl | rfl : i = 0 ∨ i = 1 ∨ i = 2 ∨ i = 3 := by omega
  · rw [hw0]; rfl
  · rw [hw1]; rfl
  · rw [hw2]; rfl
  · rw [hw3]; rfl

/-- The bits of a flags byte (R166). -/
theorem flagBits (departing pending present : Bool) :
    let f : Byte := (if departing then 1 else 0) ||| (if pending then 2 else 0) ||| (if present then 4 else 0)
    f.getLsbD 0 = departing ∧ f.getLsbD 1 = pending ∧ f.getLsbD 2 = present ∧ f.toNat < 8 := by
  revert departing pending present; decide

theorem Lease.Sound.isSome_defn {r : Lease} (h : r.Sound) : r.defn.isSome = (r.state != .undefined) := by
  obtain ⟨hdefn, -⟩ := h.presence
  rw [Bool.eq_iff_iff, Option.isSome_iff_ne_none, bne_iff_ne]
  exact not_congr hdefn

/-- A deadline lies at most 30,000 ticks ahead (R5, R17, R48). -/
theorem Lease.Sound.longestAhead_le {r : Lease} (h : r.Sound) : r.longestAhead.toNat ≤ 30000 := by
  obtain ⟨hrange, -⟩ := h.value
  unfold Lease.longestAhead
  cases hdefn : r.defn with
  | none => cases r.state <;> decide
  | some d =>
    rw [hdefn, Option.all_some, LeaseDef.inRange] at hrange
    simp only [termInRange, Config.longestTerm, Config.longestGrace, Bool.and_eq_true] at hrange
    obtain ⟨⟨⟨-, -, hmax⟩, -⟩, hgrace⟩ := hrange
    cases r.state with
    | held => exact BitVec.le_def.mp (of_decide_eq_true hmax)
    | grace => exact (BitVec.le_def.mp (of_decide_eq_true hgrace)).trans (by decide : (1000 : Word16).toNat ≤ 30000)
    | undefined | vacant | lapsing => exact Nat.zero_le _

/-- The ticks remaining before an expiry is raised fit a field of two bytes (R47, R153). -/
theorem ticksRemaining_of_ahead {w : Event → Prop} {s : State} (h : Sound w s) {l : LeaseId} {d : Deadline}
    (hd : s.deadlines[l] = some d) (hahead : d.tick - s.now ≤ s.leases[l].longestAhead.setWidth 32)
    (hwaits : s.expiryWaits l = false) :
    (s.ticksRemaining l).toNat = (d.tick - s.now).toNat ∧ (s.ticksRemaining l).toNat ≤ 30000 := by
  have hlongest := (h.lease l).record.longestAhead_le
  have hwaits : s.waitingEvent (fun e => e.isExpiryOf l) = false := hwaits
  have hle : (d.tick - s.now).toNat ≤ 30000 := by
    generalize d.tick - s.now = t at hahead
    generalize s.leases[l].longestAhead = a at hahead hlongest
    bv_omega
  have hticks : s.ticksRemaining l = (d.tick - s.now).setWidth 16 := by
    rw [State.ticksRemaining, hd]
    dsimp only
    rw [hwaits]
    rfl
  rw [hticks, BitVec.toNat_setWidth, Nat.mod_eq_of_lt (by omega)]
  exact ⟨rfl, hle⟩

theorem ticksRemaining_of_none {s : State} {l : LeaseId} (hnone : s.deadlines[l] = none) : s.ticksRemaining l = 0 := by
  rw [State.ticksRemaining, hnone]

theorem ticksRemaining_of_waits {s : State} {l : LeaseId} (hwaits : s.expiryWaits l = true) : s.ticksRemaining l = 0 := by
  have hwaits : s.waitingEvent (fun e => e.isExpiryOf l) = true := hwaits
  rw [State.ticksRemaining, hwaits]
  cases s.deadlines[l] <;> rfl

/-! ### QUERY_CHANNEL and QUERY_DEVICE -/

/-- Every field of the QUERY_CHANNEL body at its offset, in the model's own bytes (R167). -/
theorem channelBody_fields (s : State) (c : ChannelId) :
    (s.channelBody c).length = 22 ∧
      (s.channelBody c).take 6 =
        [s.channels[c].state.byte, s.channels[c].lease.elim 0xFF nibbleByte, s.channels[c].parkAction.byte,
          s.channels[c].parkTiming.byte, s.channels[c].haltGroup.byte, flagByte s.channels[c].halted] ∧
      ((s.channelBody c).drop 6).take 10 = activeBytes s.channels[c].active ∧
      ((s.channelBody c).drop 16).take 3 = stagedBytes s.slots[c] ∧
      (s.channelBody c).drop 19 = wordBytes s.channels[c].counter ++ [s.channels[c].direction.byte] := by
  obtain ⟨_, _, _, _, _, _, _, _, _, _, hactive⟩ := exists_activeBytes s.channels[c].active
  obtain ⟨_, _, _, hstaged⟩ := exists_stagedBytes s.slots[c]
  unfold State.channelBody
  dsimp only
  rw [hactive, hstaged]
  exact ⟨rfl, rfl, rfl, rfl, rfl⟩

theorem getLsbD_foldl_definedSet (s : State) (xs : List LeaseId) (w : Word16) (l : LeaseId) :
    (xs.foldl (fun w l => if s.leases[l].state = .undefined then w else w ||| BitVec.twoPow 16 l.val) w).getLsbD l.val =
      (w.getLsbD l.val || xs.any fun l' => l' == l && s.leases[l].state != .undefined) := by
  induction xs generalizing w with
  | nil => simp
  | cons x xs ih =>
    rw [List.foldl_cons, ih, List.any_cons, ← Bool.or_assoc]
    congr 1
    by_cases hx : x = l
    · subst hx
      by_cases hs : s.leases[x].state = .undefined
      · rw [if_pos hs, hs, beq_self_eq_true, bne_self_eq_false, Bool.and_false, Bool.or_false]
      · rw [if_neg hs, BitVec.getLsbD_or, BitVec.getLsbD_twoPow, decide_eq_true x.isLt, decide_eq_true rfl, beq_self_eq_true,
          bne_iff_ne.mpr hs]
    · have hval : x.val ≠ l.val := mt Fin.ext hx
      rw [beq_false_of_ne hx, Bool.false_and, Bool.or_false]
      split
      · rfl
      · rw [BitVec.getLsbD_or, BitVec.getLsbD_twoPow, decide_eq_false hval, Bool.and_false, Bool.or_false]

theorem State.definedSet_getLsbD (s : State) (l : LeaseId) : s.definedSet.getLsbD l.val = (s.leases[l].state != .undefined) := by
  have hzero : (0 : Word16).getLsbD l.val = false := BitVec.getLsbD_zero
  rw [State.definedSet, getLsbD_foldl_definedSet, hzero, Bool.false_or, Bool.eq_iff_iff, List.any_eq_true]
  simp only [mem_leaseIds, true_and, Bool.and_eq_true, beq_iff_eq, exists_eq_left]

theorem channelStateCode_eq (st : ChannelState) : channelStateCode st = st.byte := by cases st <;> rfl

theorem ownerCode_lease (l : Option LeaseId) : ownerCode l = l.elim 0xFF nibbleByte := by cases l <;> rfl

theorem parkActionCode_eq (a : ParkAction) : parkActionCode a = a.byte := by cases a <;> rfl

theorem haltGroupCode_eq (g : HaltGroup) : haltGroupCode g = g.byte := by cases g <;> rfl

theorem modeCode_eq (m : Mode) : modeCode m = m.byte := by cases m <;> rfl

theorem presenceCode_eq (p : Presence) : presenceCode p = p.byte := by cases p <;> rfl

end Sys2Proof.Machine

namespace Sys2Proof.Claims

open Sys2Proof.Machine

theorem getElem?_of_take_eq {xs : List Byte} {n : Nat} {ys : List Byte} (h : xs.take n = ys) {i : Nat} (hi : i < n) :
    xs[i]? = ys[i]? := by
  rw [← h, List.getElem?_take_of_lt hi]

theorem getElem?_of_drop_take_eq {xs : List Byte} {m n : Nat} {ys : List Byte} (h : (xs.drop m).take n = ys) {i : Nat}
    (hi : i < n) : xs[m + i]? = ys[i]? := by
  rw [← h, List.getElem?_take_of_lt hi, List.getElem?_drop]

/-- Settles O45, field by field; the ticks remaining fit their field because the deadline lies in its bound. -/
theorem leaseBodyFollowsItsLayout : Obligations.LeaseBodyFollowsItsLayout := by
  intro s l hlawful
  have hr := (hlawful.sound.lease l).record
  obtain ⟨-, hahead⟩ := hlawful.sound.deadlineLaw l
  obtain ⟨hlength, hhead, hepoch, hdeadline, hterm, hdefn, htail, hqueue⟩ := leaseBody_fields s l
  have hticks : ((s.leaseBody l).drop 6).take 2 = wordBytes (s.ticksRemaining l) := by
    have htwo : ((s.leaseBody l).drop 6).take 2 = (((s.leaseBody l).drop 5).take 3).drop 1 := by
      rw [List.drop_take, List.drop_drop]
    rw [htwo, hdeadline]
    rfl
  obtain ⟨hbit0, hbit1, hbit2, hflags⟩ := flagBits s.leases[l].departing s.leases[l].commitPending s.leases[l].defn.isSome
  refine ⟨hlength, ?_, ?_, ⟨s.leases[l].flagsByte, ?_, hbit0, hbit1, hbit2.trans hr.isSome_defn, hflags⟩, hepoch,
    fun hnone => ?_, fun d hd => ⟨?_, fun hwaits => ?_, fun hwaits => ?_⟩, hterm, fun hnone => ?_, fun d hd => ?_, ?_, ?_, fun i hi => ?_⟩
  · rw [getElem?_of_take_eq hhead (by decide), leaseStateCode_eq]
    rfl
  · rw [getElem?_of_take_eq hhead (by decide), ownerCode_eq_holderByte]
    rfl
  · rw [getElem?_of_take_eq hhead (by decide)]
    rfl
  · rw [hdeadline, ticksRemaining_of_none hnone, hnone]
    rfl
  · rw [getElem?_of_drop_take_eq (i := 0) hdeadline (by decide), hd]
    cases hkind : d.kind <;> simp [hkind, DeadlineKind.byte]
  · rw [hticks, ticksRemaining_of_waits hwaits]
    rfl
  · obtain ⟨heq, hle⟩ := ticksRemaining_of_ahead hlawful.sound hd (hahead d hd hwaits).2 hwaits
    exact ⟨_, hticks, heq, hle⟩
  · rw [hdefn, hnone]
    rfl
  · rw [hdefn, hd]
    rfl
  · rw [getElem?_of_drop_take_eq (i := 0) htail (by decide), ← reasonByte_eq_reasonCode]
    rfl
  · rw [getElem?_of_drop_take_eq (i := 1) htail (by decide)]
    rfl
  · rw [hqueue i hi]
    cases s.leases[l].queue[i]? <;> rfl

/-- Settles O46, field by field. -/
theorem channelAndDeviceBodiesFollowTheirLayouts : Obligations.ChannelAndDeviceBodiesFollowTheirLayouts := by
  refine ⟨fun s c => ?channel, fun s => ?device⟩
  case channel =>
    obtain ⟨hlength, hhead, hactive, hstaged, htail⟩ := channelBody_fields s c
    refine ⟨hlength, ?_, fun hnone => ?_, fun ps hps => ?_, fun hnone => ?_, fun x hx => ?_, ?_⟩
    · rw [hhead, channelStateCode_eq, ownerCode_lease, parkActionCode_eq, haltGroupCode_eq, ParkTiming.byte_eq]
      rfl
    · rw [hactive, hnone]
      rfl
    · obtain ⟨k, hperiods, hbyte⟩ := ps.divider.exists_pow
      refine ⟨k, hperiods, ?_⟩
      rw [hactive, hps, activeBytes, ParamSet.bytes, modeCode_eq, hbyte, Polarity.byte_eq]
      rfl
    · rw [hstaged, hnone]
      rfl
    · rw [hstaged, hx]
      rfl
    · rw [htail]
      cases s.channels[c].direction <;> rfl
  case device =>
    refine ⟨rfl, rfl, rfl, fun p => ?_, rfl, rfl, s.definedSet, rfl, s.definedSet_getLsbD⟩
    rw [presenceCode_eq]
    fin_cases p <;> rfl

end Sys2Proof.Claims
end
